-- ==== Sys2Proof/Word.lean ====
section
/-! DEFINITION. The words of the links: bytes, and the 16-bit fields of frames and masks. -/

namespace Sys2Proof

/-- One byte on a link, in a manifest or in a fuse row. -/
abbrev Byte := BitVec 8

/-- A 16-bit field: a mask, a LEN, a CRC. -/
abbrev Half := BitVec 16

end Sys2Proof
end

