-- ==== Sys2Proof/Machine/Bytes.lean ====
section
/-! DEFINITION. Byte order, bit placement and the CRC-16 of frames and of the policy block
(0.6, R169, R183, Table 6-5). -/

namespace Sys2Proof.Machine

/-- The `count` little-endian bytes of a number, least significant first (0.6, R183). -/
def leBytes : Nat → Nat → List Byte
  | 0, _ => []
  | count + 1, v => BitVec.ofNat 8 v :: leBytes count (v / 256)

/-- The number that little-endian bytes spell. -/
def leNat : List Byte → Nat
  | [] => 0
  | b :: rest => b.toNat + 256 * leNat rest

/-- The number that bytes spell with the most significant first (4.3). -/
def beNat (bytes : List Byte) : Nat :=
  bytes.foldl (fun acc b => 256 * acc + b.toNat) 0

/-- A number as one byte. -/
def byteOf (v : Nat) : Byte := BitVec.ofNat 8 v

/-- A truth value as a byte: 1 for yes and 0 for no. -/
def flagByte (b : Bool) : Byte := if b then 1 else 0

/-- Byte `i` of a byte string. -/
def byteAt (bytes : List Byte) (i : Nat) : Byte := bytes.getD i 0

/-- `len` bytes from position `start`. -/
def slice (bytes : List Byte) (start len : Nat) : List Byte := (bytes.drop start).take len

/-- `n` zero bytes. -/
def zeros (n : Nat) : List Byte := List.replicate n 0

/-- A byte string brought to `n` bytes, with zeros after it. -/
def padTo (n : Nat) (bytes : List Byte) : List Byte := (bytes ++ zeros n).take n

/-- Eight marks as one byte, mark `i` at bit `i`. -/
def packByte (marks : List Bool) : Byte :=
  byteOf ((List.range 8).foldl (fun acc i => if marks.getD i false then acc + 2 ^ i else acc) 0)

/-- Marks packed into `n` bytes: mark `j` is bit `j mod 8` of byte `j div 8` (Table 11-11). -/
def packBits : Nat → List Bool → List Byte
  | 0, _ => []
  | n + 1, marks => packByte (marks.take 8) :: packBits n (marks.drop 8)

/-- One bit of the CRC-16, polynomial 0x1021 (R169). -/
def crcShift (c : Half) : Half :=
  if c.getLsbD 15 then (c <<< 1) ^^^ 0x1021 else c <<< 1

/-- One byte of the CRC-16, from its most significant bit downward. -/
def crcByte (c : Half) (b : Byte) : Half :=
  let c := c ^^^ (b.setWidth 16 <<< 8)
  crcShift (crcShift (crcShift (crcShift (crcShift (crcShift (crcShift (crcShift c)))))))

/-- CRC-16: polynomial 0x1021, initial value 0xFFFF, no final inversion (R169, Table 6-5). -/
def crc16 (bytes : List Byte) : Half := bytes.foldl crcByte 0xFFFF

/-- An index taken from the wire, where it lies below `n`. -/
def index? (n v : Nat) : Option (Fin n) := if h : v < n then some ⟨v, h⟩ else none

end Sys2Proof.Machine
end

