-- ==== Sys2Proof/Machine/Vec.lean ====
section
/-! DEFINITION. Records of a fixed number of like things, read by index and rebuilt whole. -/

namespace Sys2Proof.Machine

/-- The record whose entry `i` is `f i`. -/
def tabulate {α : Type} {n : Nat} (f : Fin n → α) : Vector α n :=
  ⟨⟨(List.finRange n).map f⟩, by simp⟩

/-- A record with entry `i` replaced. -/
def put {α : Type} {n : Nat} (v : Vector α n) (i : Fin n) (x : α) : Vector α n := v.set i.val x

/-- The indices of a record, ascending, whose entries satisfy a test. -/
def indicesOf {n : Nat} (p : Fin n → Bool) : List (Fin n) := (List.finRange n).filter p

end Sys2Proof.Machine
end

