-- ==== Sys2Proof/Syntax.lean ====
section
/-! DEFINITION. The commands the part takes: one constructor of `Instr` for each row of
spec/opcode_table.json. A request command is one complete request frame arriving on a link
(R168): its KIND is the constructor, and `Request` holds the rest as received. An event command
is one event of a unit, a pin, a supply or the time base. -/

namespace Sys2Proof

/-- The two serial links (0.3). -/
inductive Link where
  | m
  | e
deriving DecidableEq, Repr

/-- The request kinds of Table 11-4. -/
inductive Kind where
  | identify | status | eventMask | eventClear | wait
  | slotOpen | manData | manClose | segOpen | segData | segClose | slotQuery | slotDrop
  | classDecline | windowExtend | floorAdvance
  | keyQuery | keyRevoke | keyEnroll
  | policySet | policyGet | provisionClose
  | faultRead | restart
deriving DecidableEq, Repr

/-- A request frame less its SYNC, LEN and KIND (Table 11-1): the TAG, the payload bytes, and the
two CRC bytes as one number. LEN is 2 plus the payload's length. -/
structure Request where
  tag     : Byte
  payload : List Byte
  crc     : Half
deriving DecidableEq, Repr

/-- A request frame less its SYNC and LEN, with its KIND byte as received. -/
structure Frame where
  kind    : Byte
  tag     : Byte
  payload : List Byte
  crc     : Half
deriving DecidableEq, Repr

/-- The two beginnings of a cold reset (R149): power-on, with the supplies good, or a supply
falling below its brown-out threshold, which lasts until SUPPLY_RECOVERED. -/
inductive ColdCause where
  | powerOn
  | brownOut
deriving DecidableEq, Repr

/-- Why a frame being assembled is abandoned (R174, R177): its LEN lies outside 2..1,040, a
byte's stop bit reads low (Link E), or the window ends inside the frame (Link M). -/
inductive AbandonCause where
  | lenOutOfRange (len : Half)
  | stopBitLow
  | windowEnded
deriving DecidableEq, Repr

/-- The commands, one constructor for each row of the table, in its order. -/
inductive Instr where
  | identify (l : Link) (q : Request)
  | status (l : Link) (q : Request)
  | eventMask (l : Link) (q : Request)
  | eventClear (l : Link) (q : Request)
  | wait (l : Link) (q : Request)
  | slotOpen (l : Link) (q : Request)
  | manData (l : Link) (q : Request)
  | manClose (l : Link) (q : Request)
  | segOpen (l : Link) (q : Request)
  | segData (l : Link) (q : Request)
  | segClose (l : Link) (q : Request)
  | slotQuery (l : Link) (q : Request)
  | slotDrop (l : Link) (q : Request)
  | classDecline (l : Link) (q : Request)
  | windowExtend (l : Link) (q : Request)
  | floorAdvance (l : Link) (q : Request)
  | keyQuery (l : Link) (q : Request)
  | keyRevoke (l : Link) (q : Request)
  | keyEnroll (l : Link) (q : Request)
  | policySet (l : Link) (q : Request)
  | policyGet (l : Link) (q : Request)
  | provisionClose (l : Link) (q : Request)
  | faultRead (l : Link) (q : Request)
  | restart (l : Link) (q : Request)
  | chunkDigested
  | manifestJobEnd
  | revokeJobEnd
  /-- The burn in progress and its read-back complete. `took`: whether the fuse under burn now
  reads 1. `strays`: other fuses of its row that the read-back finds reading 1 (R93, R98, R100). -/
  | fuseBurnComplete (took : Bool) (strays : List Nat)
  | selftestComplete
  | bootWindowTick
  | bootWindowExpiry
  | coldReset (cause : ColdCause)
  | resetNFall
  | resetNRise
  | frameHeld (f : Frame)
  | frameAbandoned (l : Link) (cause : AbandonCause)
  | frameGapTimeout
  | replyLeft (l : Link)
  | replyRemovedUnread
  | supplyRecovered
  | stopBitLowWhileHunting
  | badKindFrame (l : Link) (f : Frame)
  | bootClockMicrosecond
deriving DecidableEq, Repr

end Sys2Proof
end

