-- ==== Sys2Proof/Machine/Types.lean ====
section
/-! DEFINITION. The records and states the manual gives each block of the part, and the value each
record takes at reset. -/

namespace Sys2Proof.Machine

/-- The modes of the part (0.8, Table 9-1). -/
inductive Mode where
  | startup | failsafe | provision | verify | settled
deriving DecidableEq, Repr

/-- The verdict of the boot (R120). `undecided` is the manual's NONE. -/
inductive Verdict where
  | undecided | printReady | degraded | blocked
deriving DecidableEq, Repr

/-- Slot states (Table 1-2). -/
inductive SlotState where
  | free | loading | checking | signed | verified | rejected
deriving DecidableEq, Repr

/-- Signature outcome of a slot (Table 1-1). -/
inductive SigOutcome where
  | pending | passed | failed
deriving DecidableEq, Repr

/-- The policy's standing for a class (Table 6-5). -/
inductive Disposition where
  | unused | optional | required
deriving DecidableEq, Repr

/-- Class states (Table 7-1). -/
inductive ClassState where
  | unused | pending | verified | declined | failed
deriving DecidableEq, Repr

/-- Release line states (Table 7-4). -/
inductive LineState where
  | held | released | locked | disabled
deriving DecidableEq, Repr

/-- Reported key states (Table 5-2). -/
inductive KeyState where
  | empty | active | revoked
deriving DecidableEq, Repr

/-- Causes of a reset (Table 9-1). -/
inductive ResetCause where
  | power | pin | restart | provisionClose
deriving DecidableEq, Repr

/-- Rejection reasons and fault codes, which share one set of names and values (0.6, Table 11-7).
`empty` is the NONE of an empty fault record. -/
inductive FaultCode where
  | badHeader | badFormat | badGeometry | badKey | keyRevoked | keyRole | rollback
  | badSignature | segMismatch | classDoneLate | declined | windowExpired | settledOut
  | fuseFault | selftestRom | selftestFuse | selftestPolicy | revokeBadSignature | retryLimit
  | empty
deriving DecidableEq, Repr

/-- Reply statuses (Table 11-7). `rejects c` is the status of a MAN_CLOSE that rejects its slot. -/
inductive Status where
  | ok | accepted
  | badCrc | badKind | badLength | badIndex | wrongMode | linkDenied | notOwner | retryLater
  | waitBusy
  | noSlot | classUnused | classDone | classClosed | classExhausted | slotState | offset
  | overflow | short | noContext | segDone | segBusy | slotHeld
  | notOptional | noExtension | notAdvance | keyState | badSigner | policyInvalid
  | rejects (c : FaultCode)
deriving DecidableEq, Repr

/-- The nine event flags (Table 10-3). -/
inductive EventFlag where
  | slotDone | classChange | lineChange | settled | windowLow | windowExpired | fuseDone | fault
  | linkError
deriving DecidableEq, Repr

/-- The parsed manifest fields of a slot (Tables 1-1 and 1-4). -/
structure Parsed where
  version  : Nat
  epoch    : Nat
  imageLen : Nat
  exponent : Nat
  segCount : Nat
  flags    : Byte
  key      : Fin 10
  label    : List Byte
deriving DecidableEq, Repr

/-- A slot record (Table 1-1). The received count is the buffer's length, and the matched count
the number of matched marks of the segment map. -/
structure Slot where
  state    : SlotState
  cls      : Option (Fin 8)
  owner    : Option Link
  gen      : Byte
  buffer   : List Byte
  parsed   : Option Parsed
  segMap   : List Bool
  sig      : SigOutcome
  reason   : Option FaultCode
  openCtxs : List (Fin 4)
deriving DecidableEq, Repr

/-- A FREE slot that keeps a generation (R1, R23). -/
def Slot.freed (gen : Byte) : Slot :=
  { state := .free, cls := none, owner := none, gen := gen, buffer := [], parsed := none,
    segMap := [], sig := .pending, reason := none, openCtxs := [] }

/-- The claim of a digest context (Table 3-1). `folded` stands for the running digest state: the
bytes folded so far, in order. `draining` is false while FILLING. -/
structure Claim where
  slot          : Fin 12
  gen           : Byte
  seg           : Nat
  len           : Nat
  received      : Nat
  pendingChunks : Nat
  folded        : List Byte
  draining      : Bool
deriving DecidableEq, Repr

/-- A chunk entry (Table 3-3). -/
structure Chunk where
  ctx    : Fin 4
  slot   : Fin 12
  gen    : Byte
  offset : Nat
  data   : List Byte
deriving DecidableEq, Repr

/-- A waiting job of the signature unit (Table 4-1). -/
inductive Job where
  | manifest (slot : Fin 12) (gen : Byte)
  | revoke (link : Link) (target : Fin 10) (signer : Fin 2) (signature : List Byte)
deriving DecidableEq, Repr

/-- The job in progress, with the inputs it took at its start (R63, R67). -/
inductive ActiveJob where
  | manifest (slot : Fin 12) (gen : Byte) (message key signature : List Byte)
  | revoke (link : Link) (target : Fin 10) (signer : Fin 2) (message key signature : List Byte)
deriving DecidableEq, Repr

/-- The fuse array (Table 6-1). A fuse reads 1 once burnt. Fuse `f` of a floor row is bit `f - 1`.
An entry of keys 2–9 holds its 8 role fuses at bits 0–7, data bit `i` of byte `b` at bit
`8 + 8b + i`, and its active fuse at bit 584 (Table 11-13). The close row holds the policy block's
fuses at bits 0–279 and the closed fuse at bit 280. -/
structure Fuses where
  floors  : Vector (BitVec 63) 8
  revoke  : BitVec 10
  entries : Vector (BitVec 585) 8
  closing : BitVec 281
deriving DecidableEq, Repr

/-- The array of a part that has never been provisioned. -/
def Fuses.unburnt : Fuses :=
  { floors := tabulate fun _ => 0, revoke := 0, entries := tabulate fun _ => 0, closing := 0 }

/-- The kind of a fuse operation with the identifiers its rules need (6.2). `before` is the revoke
row as it read when the operation began (R100). -/
inductive FuseKind where
  | floor (slot : Fin 12) (cls : Fin 8) (target : Nat)
  | revoke (target : Fin 10) (before : BitVec 10)
  | enroll (entry : Fin 8)
  | close
deriving DecidableEq, Repr

/-- A running fuse operation (6.2). Fuses are named within their row: 1–63 in a floor row, the key
index in the revoke row, 0–584 in a key entry, 0–280 in the close row. -/
structure FuseOp where
  kind     : FuseKind
  burnList : List Nat
  position : Nat
  link     : Link
deriving DecidableEq, Repr

/-- One root entry of the ROM (Table 5-1). -/
structure RootEntry where
  key   : Vector Byte 64
  label : Vector Byte 8
deriving DecidableEq, Repr

/-- The part's ROM: the root table, its reference digest and the serial (R75, R89). -/
structure Rom where
  roots     : Vector RootEntry 2
  reference : Vector Byte 32
  serial    : Vector Byte 8
deriving DecidableEq, Repr

/-- The ROM of the reset state. DESIGN CHOICE, assumption 4: the manual gives no ROM contents.
Keys, labels and serial are zero, and the reference is the digest of that table. -/
def Rom.blank : Rom :=
  { roots := tabulate fun _ => { key := tabulate fun _ => 0, label := tabulate fun _ => 0 }
    reference := #v[
      0x81, 0xc6, 0x11, 0xf3, 0x5b, 0xff, 0x79, 0x49, 0x15, 0x38, 0xb2, 0xf7, 0xcf, 0x20, 0x1c, 0x75,
      0x97, 0xa6, 0x61, 0xa5, 0xc5, 0x49, 0x63, 0x35, 0x41, 0xc6, 0x2b, 0xdc, 0x8a, 0xf1, 0x61, 0x3f]
    serial := tabulate fun _ => 0 }

/-- The 33 field bytes of the policy (Table 6-5, bytes 0–32). -/
structure Policy where
  dispositions : Vector Disposition 8
  linkMasks    : Vector Byte 8
  need         : Vector Byte 6
  soft         : Vector Byte 6
  reload       : Byte
  prescale     : Byte
  extMax       : Byte
  maxRetry     : Byte
  maxStep      : Byte
deriving DecidableEq, Repr

/-- The staging defaults (R144). -/
def Policy.defaults : Policy :=
  { dispositions := tabulate fun _ => .unused, linkMasks := tabulate fun _ => 0,
    need := tabulate fun _ => 0, soft := tabulate fun _ => 0,
    reload := 149, prescale := 6, extMax := 1, maxRetry := 3, maxStep := 4 }

/-- A class record (Table 7-1). The link mask holds Link M at bit 0 and Link E at bit 1. -/
structure ClassRec where
  disposition  : Disposition
  linkMask     : Byte
  state        : ClassState
  attempts     : Nat
  verifiedSlot : Option (Fin 12)
deriving DecidableEq, Repr

/-- A class record at reset (R105). -/
def ClassRec.unused : ClassRec :=
  { disposition := .unused, linkMask := 0, state := .unused, attempts := 0, verifiedSlot := none }

/-- A line record (Table 7-4): bit `c` of a mask stands for class `c`. -/
structure LineRec where
  need  : Byte
  soft  : Byte
  state : LineState
deriving DecidableEq, Repr

/-- A line at reset (R115). -/
def LineRec.held : LineRec := { need := 0, soft := 0, state := .held }

/-- The boot window timer (Table 8-1). `toTick` is the time to the next tick in microseconds of
the internal time base, absent when no tick is pending. -/
structure Window where
  count    : Nat
  reload   : Nat
  prescale : Nat
  extMax   : Nat
  extUsed  : Nat
  running  : Bool
  toTick   : Option Nat
deriving DecidableEq, Repr

/-- The timer at reset (R127). -/
def Window.stopped : Window :=
  { count := 0, reload := 0, prescale := 0, extMax := 0, extUsed := 0, running := false,
    toTick := none }

/-- The reset-cause record (R153): bit `n` of the flags is the cause of code `n` (Table 11-5). -/
structure CauseRecord where
  last  : ResetCause
  flags : BitVec 4
deriving DecidableEq, Repr

/-- A fault record (Table 10-1). -/
structure FaultRecord where
  stamp  : BitVec 48
  code   : FaultCode
  link   : Option Link
  slot   : Option (Fin 12)
  cls    : Option (Fin 8)
  seg    : Option Byte
  key    : Option (Fin 10)
  detail : List Byte
deriving DecidableEq, Repr

/-- An empty fault record (R157). -/
def FaultRecord.blank : FaultRecord :=
  { stamp := 0, code := .empty, link := none, slot := none, cls := none, seg := none, key := none,
    detail := zeros 8 }

/-- A reply frame less its SYNC, LEN and CRC (Table 11-1). -/
structure Reply where
  kind    : Byte
  tag     : Byte
  status  : Status
  payload : List Byte
deriving DecidableEq, Repr

/-- A parked WAIT: its mask and its TAG (R165). -/
structure ParkedWait where
  mask : Half
  tag  : Byte
deriving DecidableEq, Repr

/-- The receive assembly (Table 11-2). -/
inductive RxState where
  | hunting
  | assembling (bytes : List Byte)
deriving DecidableEq, Repr

/-- The two entries of a link's reply queue (Table 11-2). -/
inductive ReplyEntry where
  | ordinary
  | wait
deriving DecidableEq, Repr

/-- A window of Link M (R173): CS_N is high; CS_N has fallen, no byte of the window is complete, and the
part offers the oldest ready reply, where there is one; the SYNC of a request is complete (R174); or the
frame or the reply that the window carried has ended, and nothing more comes of it (R174, R175). -/
inductive SpiWindow where
  | shut
  | begun (offered : Option ReplyEntry)
  | request
  | spent
deriving DecidableEq, Repr

/-- The state of one link interface (Table 11-2). `sending` is the entry whose reply is being sent
(Link E) or offered (Link M): the oldest ready reply. A WAIT is outstanding while it is parked or
its reply waits in `waitReply`. -/
structure LinkState where
  rx        : RxState
  held      : List Frame
  ordinary  : Option Reply
  waitReply : Option Reply
  parked    : Option ParkedWait
  sending   : Option ReplyEntry
  flags     : Half
  attnMask  : Half
deriving DecidableEq, Repr

/-- A link at reset (R161, R163, R172). -/
def LinkState.fresh : LinkState :=
  { rx := .hunting, held := [], ordinary := none, waitReply := none, parked := none,
    sending := none, flags := 0, attnMask := 0 }

/-- The output pins: the six release lines and the two ATTN lines, true being the active level (R116,
R164); TXD, which idles at its high level while no reply is being sent (R172, R179); and SDO, which is
driven in a window of Link M and at no other time (R172, R173), with the bytes `sdo` in their order from
the window's start and 0x00 after them (R173 to R175). -/
structure Pins where
  lines     : Vector Bool 6
  attnM     : Bool
  attnE     : Bool
  txdIdle   : Bool
  sdoDriven : Bool
  sdo       : List Byte
deriving DecidableEq, Repr

/-- The pins of a part that is held or has begun STARTUP: lines and ATTN inactive, TXD idle, SDO not
driven. -/
def Pins.inactive : Pins :=
  { lines := tabulate fun _ => false, attnM := false, attnE := false, txdIdle := true,
    sdoDriven := false, sdo := [] }

end Sys2Proof.Machine
end

