-- ==== Sys2Proof/Machine/Codes.lean ====
section
/-! DEFINITION. The codes that requests and replies carry (11.8). -/

namespace Sys2Proof.Machine

/-- Table 11-4. -/
def kindCode : Kind → Byte
  | .identify => 0x01
  | .status => 0x02
  | .eventMask => 0x03
  | .eventClear => 0x04
  | .wait => 0x05
  | .slotOpen => 0x10
  | .manData => 0x11
  | .manClose => 0x12
  | .segOpen => 0x13
  | .segData => 0x14
  | .segClose => 0x15
  | .slotQuery => 0x16
  | .slotDrop => 0x17
  | .classDecline => 0x20
  | .windowExtend => 0x21
  | .floorAdvance => 0x22
  | .keyQuery => 0x30
  | .keyRevoke => 0x31
  | .keyEnroll => 0x32
  | .policySet => 0x38
  | .policyGet => 0x39
  | .provisionClose => 0x3A
  | .faultRead => 0x40
  | .restart => 0x41

/-- Every request kind, in the order of Table 11-4. -/
def allKinds : List Kind :=
  [.identify, .status, .eventMask, .eventClear, .wait, .slotOpen, .manData, .manClose, .segOpen,
   .segData, .segClose, .slotQuery, .slotDrop, .classDecline, .windowExtend, .floorAdvance,
   .keyQuery, .keyRevoke, .keyEnroll, .policySet, .policyGet, .provisionClose, .faultRead, .restart]

/-- The kind that a KIND byte names, if Table 11-4 has it. -/
def kindOf (code : Byte) : Option Kind := allKinds.find? fun k => kindCode k == code

/-- Table 11-5. -/
def modeCode : Mode → Byte
  | .startup => 0
  | .failsafe => 1
  | .provision => 2
  | .verify => 3
  | .settled => 4

def verdictCode : Verdict → Byte
  | .undecided => 0
  | .printReady => 1
  | .degraded => 2
  | .blocked => 3

def slotStateCode : SlotState → Byte
  | .free => 0
  | .loading => 1
  | .checking => 2
  | .signed => 3
  | .verified => 4
  | .rejected => 5

def sigCode : SigOutcome → Byte
  | .pending => 0
  | .passed => 1
  | .failed => 2

/-- Context state: 0 IDLE, 1 FILLING, 2 DRAINING. -/
def ctxCode : Option Claim → Byte
  | none => 0
  | some c => if c.draining then 2 else 1

def classStateCode : ClassState → Byte
  | .unused => 0
  | .pending => 1
  | .verified => 2
  | .declined => 3
  | .failed => 4

def lineStateCode : LineState → Byte
  | .held => 0
  | .released => 1
  | .locked => 2
  | .disabled => 3

def keyStateCode : KeyState → Byte
  | .empty => 0
  | .active => 1
  | .revoked => 2

def linkCode : Link → Byte
  | .m => 0
  | .e => 1

/-- The reset cause's code, which is also its bit among the cause flags. -/
def causeCode : ResetCause → Nat
  | .power => 0
  | .pin => 1
  | .restart => 2
  | .provisionClose => 3

/-- Disposition bytes of the policy block (Table 6-5). -/
def dispositionCode : Disposition → Byte
  | .unused => 0
  | .optional => 1
  | .required => 2

def dispositionOf (b : Byte) : Option Disposition :=
  if b = 0 then some .unused else if b = 1 then some .optional
  else if b = 2 then some .required else none

/-- Rejection reasons, internal faults and NONE (Table 11-7). -/
def faultCode : FaultCode → Byte
  | .badHeader => 0x40
  | .badFormat => 0x41
  | .badGeometry => 0x42
  | .badKey => 0x43
  | .keyRevoked => 0x44
  | .keyRole => 0x45
  | .rollback => 0x46
  | .badSignature => 0x47
  | .segMismatch => 0x48
  | .classDoneLate => 0x49
  | .declined => 0x4A
  | .windowExpired => 0x4B
  | .settledOut => 0x4C
  | .fuseFault => 0x50
  | .selftestRom => 0x51
  | .selftestFuse => 0x52
  | .selftestPolicy => 0x53
  | .revokeBadSignature => 0x54
  | .retryLimit => 0x55
  | .empty => 0xFF

/-- Status codes (Table 11-7). -/
def statusCode : Status → Byte
  | .ok => 0x00
  | .accepted => 0x01
  | .badCrc => 0x10
  | .badKind => 0x11
  | .badLength => 0x12
  | .badIndex => 0x13
  | .wrongMode => 0x14
  | .linkDenied => 0x15
  | .notOwner => 0x16
  | .retryLater => 0x17
  | .waitBusy => 0x18
  | .noSlot => 0x20
  | .classUnused => 0x21
  | .classDone => 0x22
  | .classClosed => 0x23
  | .classExhausted => 0x24
  | .slotState => 0x25
  | .offset => 0x26
  | .overflow => 0x27
  | .short => 0x28
  | .noContext => 0x29
  | .segDone => 0x2A
  | .segBusy => 0x2B
  | .slotHeld => 0x2C
  | .notOptional => 0x30
  | .noExtension => 0x31
  | .notAdvance => 0x32
  | .keyState => 0x34
  | .badSigner => 0x36
  | .policyInvalid => 0x37
  | .rejects c => faultCode c

/-- The bit of a flag in a flag set or a mask (Table 10-3). -/
def flagBit : EventFlag → Half
  | .slotDone => 0x001
  | .classChange => 0x002
  | .lineChange => 0x004
  | .settled => 0x008
  | .windowLow => 0x010
  | .windowExpired => 0x020
  | .fuseDone => 0x040
  | .fault => 0x080
  | .linkError => 0x100

/-- The bits of a 16-bit mask that name a flag; bits 9 to 15 name none (Table 10-3). -/
def flagBits : Half := 0x1FF

/-- The tag of each class, four ASCII capitals (Table 0-1). -/
def classTag : Nat → Option (List Byte)
  | 0 => some [0x4D, 0x41, 0x49, 0x4E]
  | 1 => some [0x45, 0x4E, 0x47, 0x4E]
  | 2 => some [0x52, 0x53, 0x54, 0x52]
  | 3 => some [0x46, 0x4F, 0x4E, 0x54]
  | 4 => some [0x53, 0x43, 0x41, 0x4E]
  | 5 => some [0x46, 0x41, 0x58, 0x4D]
  | 6 => some [0x46, 0x4E, 0x53, 0x48]
  | 7 => some [0x50, 0x41, 0x4E, 0x4C]
  | _ => none

end Sys2Proof.Machine
end

