-- ==== Sys2Proof/Machine/Operands.lean ====
section
/-! DEFINITION. What the bytes of requests, manifests and the policy block spell: frame lengths and
the frame CRC, payload sizes (Tables 11-8, 11-9), the manifest head (Table 11-14), segment geometry
(Chapter 2) and the policy bytes (Table 6-5). -/

namespace Sys2Proof.Machine

/-! ### Frames -/

/-- LEN of a request frame: KIND, TAG and payload (R168). -/
def frameLen (f : Frame) : Nat := 2 + f.payload.length

/-- The CRC of a request frame, over LEN, KIND, TAG and payload (R169). -/
def frameCrc (f : Frame) : Half := crc16 (leBytes 2 (frameLen f) ++ f.kind :: f.tag :: f.payload)

/-- The frame of a request of a kind. -/
def requestFrame (k : Kind) (q : Request) : Frame := ⟨kindCode k, q.tag, q.payload, q.crc⟩

/-- The request of a kind with a tag and a payload, its CRC as a sender computes it. -/
def goodRequest (k : Kind) (tag : Byte) (payload : List Byte) : Request :=
  ⟨tag, payload, frameCrc ⟨kindCode k, tag, payload, 0⟩⟩

/-- The largest LEN a request may carry (R168). -/
def maxLen : Nat := 1040

/-- Whether a LEN is accepted by the receive assembly: 2..1,040 (R168). -/
def lenOk (len : Nat) : Bool := decide (2 ≤ len ∧ len ≤ maxLen)

/-- The bytes of a reply frame, SYNC to CRC (R168, R169). -/
def replyBytes (r : Reply) : List Byte :=
  let body := leBytes 2 (3 + r.payload.length) ++ r.kind :: r.tag :: statusCode r.status :: r.payload
  0x5A :: body ++ leBytes 2 (crc16 body).toNat

/-- Size of a request payload: exact, but for MAN_DATA and SEG_DATA, whose data follow the fixed
fields (Table 11-8, R170). -/
def payloadSizeOk (k : Kind) (n : Nat) : Bool :=
  match k with
  | .identify | .status | .windowExtend | .policyGet | .provisionClose | .restart => n == 0
  | .eventMask | .eventClear | .wait => n == 2
  | .slotOpen | .classDecline | .manClose | .slotQuery | .slotDrop | .floorAdvance
  | .keyQuery | .faultRead => n == 1
  | .manData => decide (3 ≤ n)
  | .segOpen => n == 3
  | .segData => decide (7 ≤ n)
  | .segClose => n == 5
  | .keyRevoke => n == 66
  | .keyEnroll => n == 74
  | .policySet => n == 33

/-- Size of a reply payload (Table 11-9). -/
def replySize : Kind → Nat
  | .identify => 15
  | .status => 58
  | .eventMask => 4
  | .eventClear | .wait => 2
  | .slotOpen => 2
  | .manData => 2
  | .manClose => 3
  | .segOpen => 5
  | .segData => 4
  | .segClose => 1
  | .slotQuery => 88
  | .slotDrop | .classDecline | .restart => 0
  | .windowExtend => 2
  | .floorAdvance => 2
  | .keyQuery => 28
  | .keyRevoke => 1
  | .keyEnroll => 3
  | .policySet | .policyGet => 34
  | .provisionClose => 4
  | .faultRead => 22

/-- A 16-bit mask of an event request, with bits 9 to 15 taken as zero (R183). -/
def maskOperand (payload : List Byte) : Half :=
  BitVec.ofNat 16 (leNat (slice payload 0 2)) &&& flagBits

/-! ### Segment and manifest geometry -/

/-- Segments of an image: ⌈L / 2^k⌉ on exact integers (R11, R26). -/
def segmentCount (len k : Nat) : Nat := (len + 2 ^ k - 1) / 2 ^ k

/-- Length of segment `j` (R27). -/
def segmentLen (p : Parsed) (j : Nat) : Nat :=
  if j + 1 < p.segCount then 2 ^ p.exponent else p.imageLen - (p.segCount - 1) * 2 ^ p.exponent

/-- Length of a manifest for `n` segments (R28). -/
def manifestLen (n : Nat) : Nat := 112 + 32 * n

/-- Capacity of a manifest buffer (R7). -/
def maxManifest : Nat := 8304

/-- Digest list entry `j` of a manifest buffer (R8). -/
def digestEntry (buffer : List Byte) (j : Nat) : List Byte := slice buffer (48 + 32 * j) 32

/-- Epoch of a version (R30). -/
def epochOf (version : Nat) : Nat := version / 1024

/-- The manifest head as read (Tables 1-4 and 11-14). Flag bits 1 to 7 read as zero (R183). -/
structure Head where
  first    : Byte
  tag      : List Byte
  closing  : Byte
  format   : Byte
  cls      : Nat
  version  : Nat
  imageLen : Nat
  exponent : Nat
  flags    : Byte
  segCount : Nat
  key      : Nat
  label    : List Byte
deriving DecidableEq, Repr

def readHead (buffer : List Byte) : Head :=
  { first := byteAt buffer 0, tag := slice buffer 1 4, closing := byteAt buffer 5,
    format := byteAt buffer 6, cls := (byteAt buffer 7).toNat,
    version := leNat (slice buffer 8 2), imageLen := leNat (slice buffer 10 4),
    exponent := (byteAt buffer 14).toNat, flags := byteAt buffer 15 &&& 1,
    segCount := leNat (slice buffer 16 2), key := (byteAt buffer 18).toNat,
    label := slice buffer 20 28 }

/-- The identifier sequence is right: 0x01, the tag of the head's own class index, 0x02 (R10). -/
def headerOk (h : Head) : Bool :=
  h.first == 0x01 && h.closing == 0x02 && classTag h.cls == some h.tag

/-- The six conditions of check 3, on exact integers (R11, R26). -/
def geometryOk (h : Head) (received slotClass : Nat) : Bool :=
  decide (12 ≤ h.exponent ∧ h.exponent ≤ 16 ∧ 1 ≤ h.imageLen ∧ h.imageLen ≤ 16777216 ∧
    h.segCount = segmentCount h.imageLen h.exponent ∧ h.segCount ≤ 256 ∧
    received = manifestLen h.segCount ∧ h.cls = slotClass)

/-- The parsed fields a passing MAN_CLOSE records (R14). -/
def parsedOf (h : Head) (key : Fin 10) : Parsed :=
  { version := h.version, epoch := epochOf h.version, imageLen := h.imageLen,
    exponent := h.exponent, segCount := h.segCount, flags := h.flags, key := key,
    label := h.label }

/-- Matched count of a segment map. -/
def matchedCount (marks : List Bool) : Nat := marks.countP id

/-! ### Policy bytes -/

/-- The 33 field bytes of a policy (Table 6-5). -/
def policyBytes (p : Policy) : List Byte :=
  p.dispositions.toList.map dispositionCode ++ p.linkMasks.toList ++ p.need.toList ++
    p.soft.toList ++ [p.reload, p.prescale, p.extMax, p.maxRetry, p.maxStep]

/-- The lowest class whose disposition byte is not 0, 1 or 2 (R145). -/
def badDisposition (bytes : List Byte) : Option (Fin 8) :=
  (indicesOf fun c : Fin 8 => (dispositionOf (byteAt bytes c)).isNone).head?

/-- Fields read from 33 bytes as they stand. -/
def policyOfBytes (bytes : List Byte) : Policy :=
  { dispositions := tabulate fun c => (dispositionOf (byteAt bytes c)).getD .unused
    linkMasks := tabulate fun c => byteAt bytes (8 + c)
    need := tabulate fun i => byteAt bytes (16 + i)
    soft := tabulate fun i => byteAt bytes (22 + i)
    reload := byteAt bytes 28, prescale := byteAt bytes 29, extMax := byteAt bytes 30,
    maxRetry := byteAt bytes 31, maxStep := byteAt bytes 32 }

/-- A value held at or below a limit. -/
def clampTo (limit b : Byte) : Byte := if b > limit then limit else b

/-- The clamps of POLICY_SET (R145). -/
def clampPolicy (p : Policy) : Policy :=
  { p with
    linkMasks := tabulate fun c => p.linkMasks[c] &&& 3
    prescale := clampTo 7 p.prescale
    extMax := clampTo 3 p.extMax
    maxRetry := clampTo 15 p.maxRetry
    maxStep := if p.maxStep = 0 then 1 else clampTo 16 p.maxStep }

/-- Every field lies within the values of Table 6-5 (R104). -/
def policyInRange (bytes : List Byte) : Bool :=
  (badDisposition bytes).isNone && clampPolicy (policyOfBytes bytes) == policyOfBytes bytes

/-- The lowest class of a mask, if it names one that satisfies a test. -/
def maskNames (mask : Byte) (p : Fin 8 → Bool) : Bool :=
  (List.finRange 8).any fun c => mask.getLsbD c && p c

/-- The four conditions of PROVISION_CLOSE in their order: the first that fails, with its index
(R147). -/
def policyFault (p : Policy) : Option (Nat × Nat) :=
  let unused (c : Fin 8) : Bool := p.dispositions[c] == .unused
  let named (c : Fin 8) : Bool :=
    (List.finRange 6).any fun i => (p.need[i] ||| p.soft[i]).getLsbD c
  if p.need[0] = 0 then some (1, 0)
  else match (indicesOf fun i : Fin 6 => maskNames (p.need[i] ||| p.soft[i]) unused).head? with
  | some i => some (2, i)
  | none =>
    match (indicesOf fun c : Fin 8 => !unused c && !named c).head? with
    | some c => some (3, c)
    | none =>
      match (indicesOf fun i : Fin 6 => p.need[i] &&& p.soft[i] != 0).head? with
      | some i => some (4, i)
      | none => none

/-- The 35 bytes of the policy block: 33 field bytes and their CRC, low byte first (Table 6-5). -/
def blockBytes (p : Policy) : List Byte :=
  policyBytes p ++ leBytes 2 (crc16 (policyBytes p)).toNat

end Sys2Proof.Machine
end

