-- ==== Sys2Proof/Decode.lean ====
section
/-! DEFINITION. The table of commands gives no row bits, so no word spells a command. What a
complete frame's bytes spell is Table 11-1, and is read and written here. -/

namespace Sys2Proof

open Machine

/-- The command a table word spells: the table has no bits. -/
def decodeTableWord (_nbits _w : Nat) : Option Instr := none

/-- The request command of a kind. -/
def requestCommand (l : Link) (k : Kind) (q : Request) : Instr :=
  match k with
  | .identify => .identify l q
  | .status => .status l q
  | .eventMask => .eventMask l q
  | .eventClear => .eventClear l q
  | .wait => .wait l q
  | .slotOpen => .slotOpen l q
  | .manData => .manData l q
  | .manClose => .manClose l q
  | .segOpen => .segOpen l q
  | .segData => .segData l q
  | .segClose => .segClose l q
  | .slotQuery => .slotQuery l q
  | .slotDrop => .slotDrop l q
  | .classDecline => .classDecline l q
  | .windowExtend => .windowExtend l q
  | .floorAdvance => .floorAdvance l q
  | .keyQuery => .keyQuery l q
  | .keyRevoke => .keyRevoke l q
  | .keyEnroll => .keyEnroll l q
  | .policySet => .policySet l q
  | .policyGet => .policyGet l q
  | .provisionClose => .provisionClose l q
  | .faultRead => .faultRead l q
  | .restart => .restart l q

/-- The bytes of a request frame, SYNC to CRC, in the order they are sent (Table 11-1). -/
def frameBytes (f : Frame) : List Byte :=
  0xA5 :: leBytes 2 (frameLen f) ++ f.kind :: f.tag :: f.payload ++ leBytes 2 f.crc.toNat

/-- The frame that a complete run of bytes spells: SYNC 0xA5, a LEN of 2..1,040, LEN bytes and two
CRC bytes (R168, R174). -/
def frameOfBytes (bytes : List Byte) : Option Frame :=
  let len := leNat (slice bytes 1 2)
  if byteAt bytes 0 = 0xA5 ∧ lenOk len = true ∧ bytes.length = len + 5 then
    some { kind := byteAt bytes 3, tag := byteAt bytes 4, payload := slice bytes 5 (len - 2),
           crc := BitVec.ofNat 16 (leNat (slice bytes (len + 3) 2)) }
  else none

/-- The command that a complete frame on a link is: a request of its KIND, or a frame whose KIND is
not in Table 11-4 (R170). -/
def commandOfBytes (l : Link) (bytes : List Byte) : Option Instr :=
  (frameOfBytes bytes).map fun f =>
    match kindOf f.kind with
    | some k => requestCommand l k ⟨f.tag, f.payload, f.crc⟩
    | none => .badKindFrame l f

end Sys2Proof
end

