-- ==== Sys2Proof/Config.lean ====
section
/-! DEFINITION. What the manual leaves to the part and to chance. -/

namespace Sys2Proof

/-- FREE VALUE. Whether the fuse under burn at the `n`-th reset that interrupts a burn is left
burnt. R95: it "is left burnt or unburnt, and either may occur". Nothing is known of it. -/
opaque Config.interruptedBurn : Nat → Bool

/-- FREE VALUE. Whether CS_N changes its level at an idle step of the block, the `n`-th draw of free values.
The master moves CS_N (R173), and the table has no row for its edges. Nothing is known of it. -/
opaque Config.chipSelectMoves : Nat → Bool

/-- FREE VALUE. The byte, its stop bit high, that RXD brings outside a frame at an idle step of the block, if
it brings one, at the `n`-th draw of free values. The engine controller sends it (R177), and the table has no
row for a byte. Nothing is known of it. -/
opaque Config.linkEByte : Nat → Option (BitVec 8)

end Sys2Proof
end

