-- ==== Sys2Proof/Machine/Ecdsa.lean ====
section
/-! DEFINITION. The signature function, ECDSA over the P-256 curve in its verifying direction
(4.3, R61). The manual uses it as a named function and leaves its internals outside; they are
taken here from the published standard (FIPS 186-4): PRESUMED, assumption 1. -/

namespace Sys2Proof.Machine

/-- The prime of the field of P-256. -/
def p256Prime : Nat := 0xffffffff00000001000000000000000000000000ffffffffffffffffffffffff
/-- The order of the base point of P-256. -/
def p256Order : Nat := 0xffffffff00000000ffffffffffffffffbce6faada7179e84f3b9cac2fc632551
/-- The constant term of the curve. -/
def p256B : Nat := 0x5ac635d8aa3a93e7b3ebbd55769886bc651d06b0cc53b0f63bce3c3e27d2604b
def p256BaseX : Nat := 0x6b17d1f2e12c4247f8bce6e563a440f277037d812deb33a0f4a13945d898c296
def p256BaseY : Nat := 0x4fe342e2fe1a7f9b8ee7eb4a7c0f9e162bce33576b315ececbb6406837bf51f5

/-- `x ^ e mod m` for an exponent below `2 ^ bits`. -/
def powMod (m x : Nat) : Nat → Nat → Nat
  | 0, _ => 1
  | bits + 1, e =>
    let h := powMod m x bits (e / 2)
    if e % 2 = 1 then h * h % m * x % m else h * h % m

/-- A point in Jacobian coordinates; `z` is 0 for the point at infinity. -/
structure CurvePoint where
  x : Nat
  y : Nat
  z : Nat
deriving DecidableEq, Repr

def curveDouble (a : CurvePoint) : CurvePoint :=
  let q := p256Prime
  let yy := a.y * a.y % q
  let s := 4 * a.x * yy % q
  let zz := a.z * a.z % q
  let m := 3 * (a.x + (q - zz)) * (a.x + zz) % q
  let x := (m * m + 2 * (q - s)) % q
  ⟨x, (m * (s + (q - x)) + 8 * (q - yy * yy % q)) % q, 2 * a.y * a.z % q⟩

def curveAdd (a b : CurvePoint) : CurvePoint :=
  let q := p256Prime
  if a.z = 0 then b else if b.z = 0 then a else
  let z1 := a.z * a.z % q
  let z2 := b.z * b.z % q
  let u1 := a.x * z2 % q
  let u2 := b.x * z1 % q
  let s1 := a.y * z2 % q * b.z % q
  let s2 := b.y * z1 % q * a.z % q
  let h := (u2 + (q - u1)) % q
  let r := (s2 + (q - s1)) % q
  if h = 0 then (if r = 0 then curveDouble a else ⟨1, 1, 0⟩) else
  let hh := h * h % q
  let hhh := h * hh % q
  let v := u1 * hh % q
  let x := (r * r + (q - hhh) + 2 * (q - v)) % q
  ⟨x, (r * (v + (q - x)) + (q - s1 * hhh % q)) % q, a.z * b.z % q * h % q⟩

/-- `u` times `a` plus `v` times `b`, where `ab` is `a` plus `b`, for factors below `2 ^ bits`. -/
def curveCombine (a b ab : CurvePoint) : Nat → Nat → Nat → CurvePoint
  | 0, _, _ => ⟨1, 1, 0⟩
  | bits + 1, u, v =>
    let d := curveDouble (curveCombine a b ab bits (u / 2) (v / 2))
    if u % 2 = 1 then (if v % 2 = 1 then curveAdd d ab else curveAdd d a)
    else (if v % 2 = 1 then curveAdd d b else d)

/-- Whether the curve allows the public key and the signature at all: the key is a point of the
curve and both halves of the signature lie in the order's range (R61). -/
def curveAccepts (x y r s : Nat) : Bool :=
  decide (0 < r ∧ r < p256Order ∧ 0 < s ∧ s < p256Order ∧ x < p256Prime ∧ y < p256Prime ∧
    y * y % p256Prime = (x * x % p256Prime * x + 3 * (p256Prime - x) + p256B) % p256Prime)

/-- The signature function: a 32-byte digest, a 64-byte public key and a 64-byte signature to
one answer, good or bad; an input it cannot accept is bad (R61). -/
def signatureGood (digest key signature : List Byte) : Bool :=
  let x := beNat (key.take 32)
  let y := beNat (key.drop 32)
  let r := beNat (signature.take 32)
  let s := beNat (signature.drop 32)
  if curveAccepts x y r s then
    let w := powMod p256Order s 256 (p256Order - 2)
    let g : CurvePoint := ⟨p256BaseX, p256BaseY, 1⟩
    let k : CurvePoint := ⟨x, y, 1⟩
    let t := curveCombine g k (curveAdd g k) 256 (beNat digest * w % p256Order) (r * w % p256Order)
    if t.z = 0 then false
    else
      let zi := powMod p256Prime t.z 256 (p256Prime - 2)
      t.x * (zi * zi % p256Prime) % p256Prime % p256Order == r
  else false

end Sys2Proof.Machine
end

