-- ==== Sys2Proof/Machine/State.lean ====
section
/-! DEFINITION. The machine's state: every record the manual gives the part, as plain data, and the
queue of commands that wait. -/

namespace Sys2Proof.Machine

/-- A step never faults: the manual gives every command an effect in every state, and an event
whose premise does not hold leaves the part as it is (assumption 6). -/
inductive Fault where
deriving DecidableEq, Repr

/-- Reasons for which a command has no meaning. -/
inductive Refusal where
  /-- Raised by exec for a row of the table that has no meaning yet. Safe: the machine stops. -/
  | notModelled (mnemonic : String)
deriving DecidableEq, Repr

/-- The state of the part. -/
structure State where
  /-- Table 9-1. -/
  mode           : Mode
  /-- 7.6, R120. -/
  verdict        : Verdict
  /-- Reset-cause record (R153). -/
  cause          : CauseRecord
  /-- Failed-attempt count, 0..255 (R154). -/
  failedCount    : Nat
  /-- Boot clock, microseconds (R155). -/
  bootClock      : BitVec 48
  /-- Policy staging (R144). -/
  staging        : Policy
  /-- Policy in force, absent unless read at a start-up policy check (R141). -/
  inForce        : Option Policy
  /-- Restart pending (R152). -/
  restartPending : Bool
  /-- The self-test is running (R139). -/
  selfTest       : Bool
  /-- The image table (Table 1-1). -/
  slots          : Vector Slot 12
  /-- Digest contexts SC0 to SC3 (Table 3-1): IDLE where absent. -/
  ctxs           : Vector (Option Claim) 4
  /-- The chunk queue, oldest first (R38). -/
  chunkQueue     : List Chunk
  /-- The chunk in the digest core (R39). -/
  core           : Option Chunk
  /-- Waiting jobs of the signature unit, oldest first (R58). -/
  jobs           : List Job
  /-- The job in progress (R60). -/
  active         : Option ActiveJob
  /-- The pending revocation record (R73). -/
  revoking       : Option (Fin 10)
  /-- The fuse array (Table 6-1). -/
  fuses          : Fuses
  /-- The running fuse operation (6.2). -/
  fuseOp         : Option FuseOp
  /-- The reservation of the fuse controller (R90). -/
  reserved       : Bool
  /-- The class table (Table 7-1). -/
  classes        : Vector ClassRec 8
  /-- The lines ENG_EN, ENG_GO, SCN_GO, FAX_GO, FIN_GO, PNL_GO (Table 7-4). -/
  lines          : Vector LineRec 6
  /-- The boot window timer (Table 8-1). -/
  window         : Window
  /-- Link M (Table 11-2). -/
  linkM          : LinkState
  /-- Link E (Table 11-2). -/
  linkE          : LinkState
  /-- Fault records 0 to 3 (Table 10-1). -/
  faults         : Vector FaultRecord 4
  /-- The ROM (R75, R89). -/
  rom            : Rom
  /-- RESET_N is read as low (R151). -/
  resetNLow      : Bool
  /-- A supply is below its brown-out threshold (R149). -/
  supplyLow      : Bool
  /-- The window of Link M, and the reply offered in it (R173, Table 11-2). -/
  spi            : SpiWindow
  /-- The open window of Link M is ignored up to its end (R173). -/
  windowIgnored  : Bool
  /-- The output pins: release lines, ATTN lines, TXD and SDO (R116, R164, R172, R173). -/
  pins           : Pins
  /-- MODEL: how many times free values have been drawn; picks the next ones (assumptions 5, 27, 28). -/
  freeCount      : Nat
  /-- MODEL: commands that wait, first in, first out. -/
  pending        : List Instr
deriving DecidableEq, Repr

/-- The machine right after a cold reset with the supplies good and RESET_N high: every block at
its cold reset value of Table 9-4, STARTUP begun, the fuses of a part never provisioned. -/
def State.reset : State :=
  { mode := .startup, verdict := .undecided,
    cause := { last := .power, flags := 1 }, failedCount := 0, bootClock := 0,
    staging := Policy.defaults, inForce := none, restartPending := false, selfTest := true,
    slots := tabulate fun _ => Slot.freed 0,
    ctxs := tabulate fun _ => none, chunkQueue := [], core := none,
    jobs := [], active := none,
    revoking := none, fuses := Fuses.unburnt, fuseOp := none, reserved := false,
    classes := tabulate fun _ => ClassRec.unused, lines := tabulate fun _ => LineRec.held,
    window := Window.stopped,
    linkM := LinkState.fresh, linkE := LinkState.fresh,
    faults := tabulate fun _ => FaultRecord.blank,
    rom := Rom.blank, resetNLow := false, supplyLow := false, spi := .shut, windowIgnored := false,
    pins := Pins.inactive,
    freeCount := 0, pending := [] }

/-- What a command answers. -/
abbrev Result := Host.Outcome State Fault Refusal

end Sys2Proof.Machine
end

