-- ==== Sys2Proof/Machine/Flags.lean ====
section
/-! DEFINITION. Event flags, ATTN lines, release line pins, parked WAITs and the order in which a
link's replies leave (10.4 to 10.6, R116, R171, R184). An event posts flags as it goes, and
`commit` closes it: WAITs are answered and pins driven from the flags and lines as the whole event
leaves them. -/

namespace Sys2Proof.Machine

/-- The state of one link. -/
def State.link (s : State) : Link → LinkState
  | .m => s.linkM
  | .e => s.linkE

/-- One link changed, the other left as it is. -/
def State.onLink (s : State) (l : Link) (f : LinkState → LinkState) : State :=
  match l with
  | .m => { s with linkM := f s.linkM }
  | .e => { s with linkE := f s.linkE }

/-- A link with a flag set. -/
def LinkState.raise (x : LinkState) (f : EventFlag) : LinkState :=
  { x with flags := x.flags ||| flagBit f }

/-- A block posts an event: its flag is set on both links (R161). -/
def State.post (s : State) (f : EventFlag) : State :=
  { s with linkM := s.linkM.raise f, linkE := s.linkE.raise f }

/-- LINK_ERROR is set on the link's own flags alone (R161). -/
def State.linkError (s : State) (l : Link) : State := s.onLink l fun x => x.raise .linkError

/-- A WAIT is outstanding from its taking until its reply has left (R165). -/
def LinkState.waitOutstanding (x : LinkState) : Bool := x.parked.isSome || x.waitReply.isSome

/-- The reply to a WAIT: OK with the link's full flag set (R165, R166). -/
def waitAnswer (tag : Byte) (flags : Half) : Reply :=
  { kind := kindCode .wait + 0x80, tag := tag, status := .ok, payload := leBytes 2 flags.toNat }

/-- A parked WAIT whose mask names a set flag is answered (R166). -/
def LinkState.answerParked (x : LinkState) : LinkState :=
  match x.parked with
  | some w =>
    if x.flags &&& w.mask = 0 then x
    else { x with parked := none, waitReply := some (waitAnswer w.tag x.flags) }
  | none => x

/-- The entry that is sent next when no reply is being sent: of two replies that became ready in
one event the ordinary one goes first (R184). -/
def LinkState.firstReady (x : LinkState) : Option ReplyEntry :=
  if x.ordinary.isSome then some .ordinary
  else if x.waitReply.isSome then some .wait else none

/-- An entry of the reply queue holds a reply. -/
def LinkState.holds (x : LinkState) : ReplyEntry → Bool
  | .ordinary => x.ordinary.isSome
  | .wait => x.waitReply.isSome

/-- A reply once being sent keeps its place before one that becomes ready later (R171). -/
def LinkState.chooseReply (x : LinkState) : LinkState :=
  { x with sending := if x.sending.any x.holds then x.sending else x.firstReady }

/-- What closes an event on one link. -/
def LinkState.close (x : LinkState) : LinkState := x.answerParked.chooseReply

/-- The part takes no byte, sends no reply and drives its pins inactive while RESET_N reads low
and while a supply is below its brown-out threshold (R149, R151, R172). -/
def State.deaf (s : State) : Bool := s.resetNLow || s.supplyLow

/-- The level of a link's ATTN line while the part is not held (R164). -/
def LinkState.attn (x : LinkState) : Bool := x.flags &&& x.attnMask != 0

/-- The reply in an entry of the reply queue. -/
def LinkState.replyIn (x : LinkState) : ReplyEntry → Option Reply
  | .ordinary => x.ordinary
  | .wait => x.waitReply

/-- SDO is driven in a window of Link M that is not ignored, from its start to its end (R172, R173). -/
def State.drivesSdo (s : State) : Bool := s.spi != .shut && !s.windowIgnored && !s.deaf

/-- The bytes that SDO carries in the window, in order: the reply offered at its start, from its SYNC to
its second CRC byte (R173, R175). 0x00 follows them, and is all that a window without a reply, a request
window after its first byte, and the rest of a window after its frame or reply carry (R174, R175). -/
def State.sdoBytes (s : State) : List Byte :=
  match s.spi with
  | .begun (some e) => (s.linkM.replyIn e).elim [] replyBytes
  | _ => []

/-- The pins as lines, flags, masks, windows and replies drive them (R116, R149, R151, R164, R172, R173,
R175, R179). A held part drives no line, ATTN or SDO, and TXD idles. -/
def State.drivenPins (s : State) : Pins :=
  { lines := tabulate fun i => s.lines[i].state == .released && !s.deaf
    attnM := s.linkM.attn && !s.deaf
    attnE := s.linkE.attn && !s.deaf
    txdIdle := s.linkE.sending.isNone || s.deaf
    sdoDriven := s.drivesSdo
    sdo := if s.drivesSdo then s.sdoBytes else [] }

/-- Pins follow in the event that changes what they show. -/
def State.drive (s : State) : State := { s with pins := s.drivenPins }

/-- The close of an event. -/
def State.commit (s : State) : State :=
  ({ s with linkM := s.linkM.close, linkE := s.linkE.close } : State).drive

end Sys2Proof.Machine
end

