-- ==== Sys2Proof/Machine/Ops.lean ====
section
/-! DEFINITION. Named operations over the blocks: fault capture, fuse rows and keys as they read,
slots and their release and rejection, exhaustion, line evaluation and the entry to SETTLED. -/

namespace Sys2Proof.Machine

/-! ### Fault capture (10.1, 10.2) -/

/-- The lowest-numbered empty first-fault record (R158). -/
def firstEmpty (v : Vector FaultRecord 4) : Option (Fin 4) :=
  if v[1].code = .empty then some 1
  else if v[2].code = .empty then some 2
  else if v[3].code = .empty then some 3 else none

/-- A record replaces record 0 and fills the lowest empty first-fault record (R158). -/
def storeFault (v : Vector FaultRecord 4) (r : FaultRecord) : Vector FaultRecord 4 :=
  match firstEmpty v with
  | some i => put (put v 0 r) i r
  | none => put v 0 r

/-- A fault is handed to fault capture: stamped with the boot clock (R156), stored, and FAULT
posted (R158). -/
def State.recordFault (s : State) (r : FaultRecord) : State :=
  ({ s with faults := storeFault s.faults { r with stamp := s.bootClock } } : State).post .fault

/-- A fault with no optional field but those given. -/
def faultOf (code : FaultCode) (detail : List Byte) : FaultRecord :=
  { FaultRecord.blank with code := code, detail := padTo 8 detail }

/-! ### Fuse rows as they read (R31, R74, R89) -/

/-- How many fuses of a row read 1. -/
def burntCount {w : Nat} (row : BitVec w) : Nat := (List.range w).countP fun i => row.getLsbD i

/-- The floor of a class: burnt fuses of its row (R31). -/
def State.floor (s : State) (c : Fin 8) : Nat := burntCount s.fuses.floors[c]

/-- A floor row with fuses 1 to `f` burnt (R98). -/
def thermometer (f : Nat) : BitVec 63 := BitVec.ofNat 63 (2 ^ f - 1)

/-- The OTP entry of a key index 2–9. -/
def otpEntry (k : Fin 10) : Option (Fin 8) :=
  if h : 2 ≤ k.val then some ⟨k.val - 2, by omega⟩ else none

/-- The key index of an OTP entry. -/
def keyOfEntry (e : Fin 8) : Fin 10 := ⟨e.val + 2, by omega⟩

/-- The root entry of a key index 0–1. -/
def rootEntry (s : State) (k : Fin 10) : RootEntry := if k = 0 then s.rom.roots[0] else s.rom.roots[1]

/-- The revoke fuse of a key reads burnt. -/
def State.revokeBurnt (s : State) (k : Fin 10) : Bool := s.fuses.revoke.getLsbD k

/-- Fuse numbers of a key entry (Table 11-13). -/
def dataFuse (byte bit : Nat) : Nat := 8 + 8 * byte + bit
def activeFuse : Nat := 584
def closedFuse : Nat := 280

/-- Reported key state (R74). -/
def State.keyState (s : State) (k : Fin 10) : KeyState :=
  if s.revokeBurnt k then .revoked
  else match otpEntry k with
  | none => .active
  | some e => if s.fuses.entries[e].getLsbD activeFuse then .active else .empty

/-- Role mask of a key: all classes for a root, the role fuses for an OTP entry (R74). -/
def State.roleMask (s : State) (k : Fin 10) : Byte :=
  match otpEntry k with
  | none => 0xFF
  | some e => s.fuses.entries[e].extractLsb' 0 8

/-- Data byte `b` of an OTP entry as its fuses read (Table 5-1). -/
def entryByte (entry : BitVec 585) (b : Nat) : Byte := entry.extractLsb' (dataFuse b 0) 8

/-- The 64 public-key bytes of a key. -/
def State.keyBytes (s : State) (k : Fin 10) : List Byte :=
  match otpEntry k with
  | none => (rootEntry s k).key.toList
  | some e => (List.range 64).map fun b => entryByte s.fuses.entries[e] b

/-- The 8 label bytes of a key. -/
def State.keyLabel (s : State) (k : Fin 10) : List Byte :=
  match otpEntry k with
  | none => (rootEntry s k).label.toList
  | some e => (List.range 8).map fun b => entryByte s.fuses.entries[e] (64 + b)

/-- Blank indication: every one of the 584 enrolment fuses reads unburnt; no for a root (R77). -/
def State.keyBlank (s : State) (k : Fin 10) : Bool :=
  match otpEntry k with
  | none => false
  | some e => s.fuses.entries[e].extractLsb' 0 584 == 0

/-- The closed fuse as it reads. -/
def State.closedBurnt (s : State) : Bool := s.fuses.closing.getLsbD closedFuse

/-- The 35 bytes of the policy block as its fuses read (Table 6-5). -/
def State.policyBlock (s : State) : List Byte :=
  (List.range 35).map fun b => s.fuses.closing.extractLsb' (8 * b) 8

/-- The fuse controller is neither busy nor reserved (Table 6-2). -/
def State.fusesIdle (s : State) : Bool := s.fuseOp.isNone && !s.reserved

/-- Reported fuse controller state: 0 idle, 1 busy, 2 reserved (Tables 6-2 and 11-5). -/
def State.fuseCode (s : State) : Byte :=
  if s.fuseOp.isSome then 1 else if s.reserved then 2 else 0

/-! ### Slots -/

/-- One slot replaced. -/
def State.setSlot (s : State) (i : Fin 12) (x : Slot) : State := { s with slots := put s.slots i x }

/-- One class record replaced. -/
def State.setClass (s : State) (c : Fin 8) (x : ClassRec) : State :=
  { s with classes := put s.classes c x }

/-- A slot in LOADING, CHECKING or SIGNED is live (Table 1-1). -/
def Slot.live (x : Slot) : Bool :=
  x.state == .loading || x.state == .checking || x.state == .signed

/-- The owner check: the slot is FREE or the request arrived on its owner link (R2). -/
def Slot.ownedBy (x : Slot) (l : Link) : Bool := x.state == .free || x.owner == some l

/-- The lowest-numbered FREE slot (R6). -/
def State.freeSlot (s : State) : Option (Fin 12) :=
  (indicesOf fun i : Fin 12 => s.slots[i].state == .free).head?

/-- The lowest-numbered IDLE context (R43). -/
def State.idleCtx (s : State) : Option (Fin 4) :=
  (indicesOf fun x : Fin 4 => s.ctxs[x].isNone).head?

/-- A slot's outstanding work is released: its contexts become IDLE, its chunks leave the queue and
its waiting manifest job leaves the signature queue (R18, R53, R54, R65). A chunk in the core and
a job in progress stay until they end (R55, R66). -/
def State.release (s : State) (i : Fin 12) : State :=
  let g := s.slots[i].gen
  ({ s with
    ctxs := tabulate fun x => s.ctxs[x].filter fun c => c.slot != i
    chunkQueue := s.chunkQueue.filter fun ch => !(ch.slot == i && ch.gen == g)
    jobs := s.jobs.filter fun j => j != .manifest i g } : State).setSlot i
      { s.slots[i] with openCtxs := [] }

/-- A slot becomes REJECTED (R16, Table 1-6): the reason, the release, the fault record and
SLOT_DONE. The class table is told at the event's end, by `State.conclude`. -/
def State.reject (s : State) (i : Fin 12) (reason : FaultCode) (seg : Option Byte)
    (key : Option (Fin 10)) (detail : List Byte) : State :=
  let x := s.slots[i]
  let t := if x.live then s.release i else s
  ((t.setSlot i { t.slots[i] with state := .rejected, reason := some reason }).recordFault
    { faultOf reason detail with link := x.owner, slot := some i, cls := x.cls, seg := seg,
                                 key := key }).post .slotDone

/-- A rejection order: every slot it names is rejected, in ascending slot index (R17, R159). -/
def State.rejectAll (s : State) (names : List (Fin 12)) (reason : FaultCode)
    (key : Option (Fin 10)) : State :=
  names.foldl (fun t i => t.reject i reason none key []) s

/-- The live slots, ascending. -/
def State.liveSlots (s : State) : List (Fin 12) := indicesOf fun i => s.slots[i].live

/-- The live slots of a class, ascending. -/
def State.liveOfClass (s : State) (c : Fin 8) : List (Fin 12) :=
  indicesOf fun i => s.slots[i].live && s.slots[i].cls == some c

/-! ### Release lines and the verdict (7.5, 7.6) -/

/-- Some class of a mask stands in one of the given states. -/
def maskAny (classes : Vector ClassRec 8) (mask : Byte) (p : ClassState → Bool) : Bool :=
  (List.finRange 8).any fun c => mask.getLsbD c && p classes[c].state

/-- Every class of a mask stands in one of the given states. -/
def maskAll (classes : Vector ClassRec 8) (mask : Byte) (p : ClassState → Bool) : Bool :=
  (List.finRange 8).all fun c => !mask.getLsbD c || p classes[c].state

/-- The evaluation of a HELD line (R117). -/
def evaluateLine (classes : Vector ClassRec 8) (x : LineRec) : LineState :=
  if maskAny classes x.need (fun t => t == .declined || t == .failed) ||
      maskAny classes x.soft (fun t => t == .failed) then .locked
  else if maskAll classes x.need (fun t => t == .verified) &&
      maskAll classes x.soft (fun t => t == .verified || t == .declined) then .released
  else .held

/-- Some line is in a state. -/
def anyLine (lines : Vector LineRec 6) (t : LineState) : Bool :=
  (List.finRange 6).any fun i => lines[i].state == t

/-- The lines with their HELD ones evaluated (R118). -/
def evaluatedLines (classes : Vector ClassRec 8) (lines : Vector LineRec 6) : Vector LineRec 6 :=
  tabulate fun i =>
    if lines[i].state = .held then { lines[i] with state := evaluateLine classes lines[i] }
    else lines[i]

/-- New lines, with LINE_CHANGE once if any of them changed state (R118, R134). -/
def State.moveLines (s : State) (lines : Vector LineRec 6) : State :=
  if lines = s.lines then s else ({ s with lines := lines } : State).post .lineChange

/-- The verdict of decided lines (R120). -/
def verdictOf (lines : Vector LineRec 6) : Verdict :=
  if lines[0].state = .released then
    if anyLine lines .locked then .degraded else .printReady
  else .blocked

/-- The timer stops: not running, no tick pending, the count and extensions used held (R137). -/
def Window.stop (w : Window) : Window := { w with running := false, toTick := none }

/-- The entry to SETTLED (R121). -/
def State.settle (s : State) : State :=
  let v := verdictOf s.lines
  let t : State := { s with mode := .settled, verdict := v, window := s.window.stop,
                            failedCount := if v = .printReady then 0 else s.failedCount }
  (t.rejectAll t.liveSlots .settledOut none).post .settled

/-- In VERIFY, when no line is HELD, the part settles (R120). -/
def State.settleIfDecided (s : State) : State :=
  if s.mode = .verify ∧ anyLine s.lines .held = false then s.settle else s

/-- The release gate's answer to a change of class state (R118). -/
def State.gate (s : State) : State :=
  (s.moveLines (evaluatedLines s.classes s.lines)).settleIfDecided

/-! ### Classes (7.3) -/

/-- A PENDING class with three attempts and no live slot is exhausted (R111). -/
def State.exhausted (s : State) (c : Fin 8) : Bool :=
  s.classes[c].state == .pending && s.classes[c].attempts == 3 && (s.liveOfClass c).isEmpty

/-- The class record that exhaustion leaves (R111). -/
def ClassRec.closed (x : ClassRec) : ClassRec :=
  { x with state := if x.disposition = .optional then .declined else .failed }

/-- A slot enters VERIFIED (R19) and its class with it, whose other live slots are rejected (R110). The
lines are evaluated at the event's end, by `State.conclude`. -/
def State.verifySlot (s : State) (i : Fin 12) : State :=
  let t := (s.setSlot i { s.slots[i] with state := .verified, sig := .passed }).post .slotDone
  match s.slots[i].cls with
  | none => t
  | some c =>
    let u := t.setClass c { t.classes[c] with state := .verified, verifiedSlot := some i }
    (u.rejectAll (u.liveOfClass c) .classDoneLate none).post .classChange

/-! ### The end of an event that moved slots (R106, R112, R118) -/

/-- Between two states of one event a slot of a class left its live states. -/
def State.departs (before s : State) (c : Fin 8) : Bool :=
  (List.finRange 12).any fun i =>
    before.slots[i].live && before.slots[i].cls == some c && !s.slots[i].live

/-- A class that a slot left is exhausted, as the whole event leaves it (R111, R112). -/
def State.closes (before s : State) (c : Fin 8) : Bool := before.departs s c && s.exhausted c

/-- A slot of a class entered VERIFIED in the event, and the class with it (R110). -/
def State.wins (before s : State) : Bool :=
  (List.finRange 12).any fun i =>
    before.slots[i].live && before.slots[i].cls.isSome && s.slots[i].state == .verified

/-- The exhausted classes close, with CLASS_CHANGE once for the event (R106, R111). -/
def State.closeExhausted (before s : State) : State :=
  if (List.finRange 8).any (before.closes s) then
    ({ s with classes := tabulate fun c =>
        if before.closes s c then s.classes[c].closed else s.classes[c] } : State).post .classChange
  else s

/-- The class table and the release gate at the end of an event that moved slots: exhaustion is
evaluated for the classes they left, and where a class changed state the lines are evaluated. Each is
done once, on what the whole event leaves (R106, R112, R118). -/
def State.conclude (before s : State) : State :=
  let t := before.closeExhausted s
  if (List.finRange 8).any (before.closes s) || before.wins s then t.gate else t

end Sys2Proof.Machine
end

