-- ==== Sys2Proof/Machine/Sha256.lean ====
section
/-! DEFINITION. The digest function, SHA-256 (4.3). The manual uses it as a named function and
leaves its internals outside; they are taken here from the published standard (FIPS 180-4):
PRESUMED, assumption 1. -/

namespace Sys2Proof.Machine

/-! ### Constants

The standard gives each constant as the first 32 bits of the fraction of a root of a prime. The
roots are taken here in whole numbers. -/

/-- The greatest number at or above `r` whose `k`-th power is at most `v`, `bits` bits deciding. -/
def wholeRoot (k v : Nat) : Nat → Nat → Nat
  | 0, r => r
  | bits + 1, r => wholeRoot k v bits (if (r + 2 ^ bits) ^ k ≤ v then r + 2 ^ bits else r)

/-- The first 32 bits of the fraction of the `k`-th root of a number below 400: the root scaled by
2^32, its whole part dropped. -/
def rootFraction (k n : Nat) : BitVec 32 :=
  BitVec.ofNat 32 (wholeRoot k (n * 2 ^ (32 * k)) 37 0)

/-- The 64 primes below 312. A number below 361 is prime if no prime up to 17 divides it but
itself. -/
def shaPrimes : List Nat :=
  (List.range 312).filter fun n => decide (2 ≤ n) &&
    [2, 3, 5, 7, 11, 13, 17].all fun d => n == d || n % d != 0

/-- The round constants: from the cube roots of the 64 primes. -/
def shaConstants : List (BitVec 32) := shaPrimes.map (rootFraction 3)

/-- The eight working words. -/
structure ShaWords where
  a : BitVec 32
  b : BitVec 32
  c : BitVec 32
  d : BitVec 32
  e : BitVec 32
  f : BitVec 32
  g : BitVec 32
  h : BitVec 32
deriving DecidableEq, Repr

/-- The starting value of the digest function: from the square roots of the first eight primes. -/
def shaStart : ShaWords :=
  { a := rootFraction 2 2, b := rootFraction 2 3, c := rootFraction 2 5, d := rootFraction 2 7,
    e := rootFraction 2 11, f := rootFraction 2 13, g := rootFraction 2 17, h := rootFraction 2 19 }

def shaRotate (x : BitVec 32) (n : Nat) : BitVec 32 := (x >>> n) ||| (x <<< (32 - n))

def shaRound (r : ShaWords) (kw : BitVec 32) : ShaWords :=
  let t1 := r.h + (shaRotate r.e 6 ^^^ shaRotate r.e 11 ^^^ shaRotate r.e 25) +
    ((r.e &&& r.f) ^^^ (~~~r.e &&& r.g)) + kw
  let t2 := (shaRotate r.a 2 ^^^ shaRotate r.a 13 ^^^ shaRotate r.a 22) +
    ((r.a &&& r.b) ^^^ (r.a &&& r.c) ^^^ (r.b &&& r.c))
  ⟨t1 + t2, r.a, r.b, r.c, r.d + t1, r.e, r.f, r.g⟩

/-- The rounds of one block over the last sixteen words of its schedule, oldest first. -/
def shaRounds : List (BitVec 32) → List (BitVec 32) → ShaWords → ShaWords
  | [], _, r => r
  | k :: ks, w, r =>
    let x := w.getD 1 0
    let y := w.getD 14 0
    let s0 := shaRotate x 7 ^^^ shaRotate x 18 ^^^ (x >>> 3)
    let s1 := shaRotate y 17 ^^^ shaRotate y 19 ^^^ (y >>> 10)
    shaRounds ks (w.drop 1 ++ [w.getD 0 0 + s0 + w.getD 9 0 + s1]) (shaRound r (k + w.getD 0 0))

def shaBlock (r : ShaWords) (w : List (BitVec 32)) : ShaWords :=
  let t := shaRounds shaConstants w r
  ⟨r.a + t.a, r.b + t.b, r.c + t.c, r.d + t.d, r.e + t.e, r.f + t.f, r.g + t.g, r.h + t.h⟩

def shaBlocks : Nat → List (BitVec 32) → ShaWords → ShaWords
  | 0, _, r => r
  | n + 1, w, r => shaBlocks n (w.drop 16) (shaBlock r (w.take 16))

/-- Bytes as 32-bit words, most significant byte first. -/
def shaInput : List Byte → List (BitVec 32)
  | a :: b :: c :: d :: rest => ((a ++ b) ++ (c ++ d)) :: shaInput rest
  | _ => []

/-- A message with its closing bit, zeros and 64-bit length. -/
def shaPad (m : List Byte) : List Byte :=
  m ++ [(0x80 : Byte)] ++ zeros ((119 - m.length % 64) % 64) ++ (leBytes 8 (8 * m.length)).reverse

def shaOutput (w : BitVec 32) : List Byte :=
  [w.extractLsb' 24 8, w.extractLsb' 16 8, w.extractLsb' 8 8, w.extractLsb' 0 8]

/-- The digest function: a run of bytes of any length to a 32-byte digest (4.3). -/
def sha256 (m : List Byte) : List Byte :=
  let w := shaInput (shaPad m)
  let r := shaBlocks (w.length / 16) w shaStart
  shaOutput r.a ++ shaOutput r.b ++ shaOutput r.c ++ shaOutput r.d ++
    shaOutput r.e ++ shaOutput r.f ++ shaOutput r.g ++ shaOutput r.h

end Sys2Proof.Machine
end

