-- ==== Sys2Proof/Machine/SignatureUnit.lean ====
section
/-! DEFINITION. The signature unit: the start of a job, the report of a manifest job and the ends of
both kinds of job (Chapter 4, R20). -/

namespace Sys2Proof.Machine

/-- The three results of a manifest job (R64). -/
inductive JobResult where
  | pass
  | fail
  | keyRevokedAtStart
deriving DecidableEq, Repr

/-- A report is applied only to a live slot with the report's generation (R4). -/
def State.reportApplies (s : State) (i : Fin 12) (gen : Byte) : Bool :=
  s.slots[i].live && s.slots[i].gen == gen

/-- Every segment of a slot has matched: the matched count equals N (R20, R21). -/
def Slot.mapFull (x : Slot) : Bool :=
  match x.parsed with
  | some p => matchedCount x.segMap == p.segCount
  | none => false

/-- The key index a slot's manifest names, once parsed. -/
def Slot.keyIndex (x : Slot) : Option (Fin 10) := x.parsed.map fun p => p.key

/-- A manifest job's report reaches the image table (R4, R20). Classes and lines follow at the event's
end. -/
def State.jobReport (s : State) (i : Fin 12) (gen : Byte) (result : JobResult) : State :=
  if s.reportApplies i gen then
    let x := s.slots[i]
    match result with
    | .pass =>
      if x.mapFull then s.verifySlot i
      else s.setSlot i { x with state := .signed, sig := .passed }
    | .fail =>
      (s.setSlot i { x with sig := .failed }).reject i .badSignature none x.keyIndex []
    | .keyRevokedAtStart => s.reject i .keyRevoked none x.keyIndex []
  else s

/-- The bytes a manifest job covers: the head and the digest list (R63). -/
def Slot.signedBytes (x : Slot) : List Byte :=
  match x.parsed with
  | some p => x.buffer.take (48 + 32 * p.segCount)
  | none => []

/-- The signature of a slot's manifest (R63). -/
def Slot.signatureBytes (x : Slot) : List Byte :=
  match x.parsed with
  | some p => slice x.buffer (48 + 32 * p.segCount) 64
  | none => []

/-- The notice message: "REVK", the target and the part's serial (R67). -/
def State.noticeMessage (s : State) (target : Fin 10) : List Byte :=
  [0x52, 0x45, 0x56, 0x4B, byteOf target] ++ s.rom.serial.toList

/-- The key index of a signer root. -/
def signerKey (r : Fin 2) : Fin 10 := ⟨r.val, by omega⟩

/-- The key a slot's manifest names reads REVOKED (R62). -/
def State.slotKeyRevoked (s : State) (i : Fin 12) : Bool :=
  match s.slots[i].keyIndex with
  | some k => s.keyState k == .revoked
  | none => false

/-- A job as it starts, with its inputs (R63, R67). -/
def State.startedJob (s : State) : Job → ActiveJob
  | .manifest i gen =>
    let x := s.slots[i]
    .manifest i gen x.signedBytes ((x.keyIndex.map s.keyBytes).getD []) x.signatureBytes
  | .revoke l target signer signature =>
    .revoke l target signer (s.noticeMessage target) (s.keyBytes (signerKey signer)) signature

/-- Manifest jobs that end at their start: while the oldest waiting job is one whose key reads REVOKED,
it leaves the list and its report is applied (R62). The first argument bounds how many. -/
def endAtStart : Nat → State → State
  | 0, s => s
  | n + 1, s =>
    match s.jobs with
    | .manifest i gen :: rest =>
      if s.slotKeyRevoked i then
        endAtStart n (({ s with jobs := rest } : State).jobReport i gen .keyRevokedAtStart)
      else s
    | _ => s

/-- Every job that ends at its start before one that does not. -/
def State.endStarts (s : State) : State := endAtStart s.jobs.length s

/-- The oldest waiting job becomes the job in progress, with its inputs (R60). -/
def State.takeJob (s : State) : State :=
  match s.jobs with
  | [] => s
  | j :: rest => { s with jobs := rest, active := some (s.startedJob j) }

/-- The end of an event in the signature unit, `before` being the part as the event found it. While a
job is in progress only classes and lines follow. An idle unit takes the oldest waiting job (R60): the
jobs that end at their start are reported first, then classes and lines follow, once for the event
(R106, R118), and a job whose slot that settles is gone from the list (R65). -/
def State.startNext (before s : State) : State :=
  if s.active.isSome then before.conclude s
  else (before.conclude s.endStarts).endStarts.takeJob

/-- The signature queue has room for a waiting job (R59). -/
def State.queueRoom (s : State) : Bool := decide (s.jobs.length < 6)

/-- A job is appended at the tail and starts at once if the unit is idle (R58, R60). -/
def State.placeJob (s : State) (j : Job) : State :=
  s.startNext { s with jobs := s.jobs ++ [j] }

/-- Signature queue depth as STATUS reports it (R72). -/
def State.jobDepth (s : State) : Nat := s.jobs.length + (if s.active.isSome then 1 else 0)

/-- MANIFEST_JOB_END: the report, then the next job (R63, R64). -/
def State.endManifestJob (s : State) : State :=
  match s.active with
  | some (.manifest i gen message key signature) =>
    let result := if signatureGood (sha256 message) key signature then JobResult.pass else .fail
    s.startNext (({ s with active := none } : State).jobReport i gen result)
  | _ => s

/-- A revoke job passes: the target's revoke fuse is handed to the fuse controller (R68, R100). -/
def State.handOverRevocation (s : State) (l : Link) (target : Fin 10) : State :=
  { s with fuseOp := some { kind := .revoke target s.fuses.revoke, burnList := [target.val],
                            position := 0, link := l } }

/-- The reservation is released and the pending record cleared (Table 5-4). -/
def State.endReservation (s : State) : State := { s with reserved := false, revoking := none }

/-- A revoke job fails (R69). -/
def State.failRevocation (s : State) (l : Link) (target : Fin 10) (signer : Fin 2) : State :=
  (s.endReservation.recordFault
    { faultOf .revokeBadSignature [byteOf signer] with link := some l, key := some target }).post
    .fuseDone

/-- REVOKE_JOB_END: the result, then the next job (R67 to R69). -/
def State.endRevokeJob (s : State) : State :=
  match s.active with
  | some (.revoke l target signer message key signature) =>
    let t : State := { s with active := none }
    s.startNext
      (if signatureGood (sha256 message) key signature then t.handOverRevocation l target
       else t.failRevocation l target signer)
  | _ => s

end Sys2Proof.Machine
end

