-- ==== Sys2Proof/Machine/DigestUnit.lean ====
section
/-! DEFINITION. The digest unit: the core, completion of a context and the reports it makes
(Chapter 3, R21, R22). -/

namespace Sys2Proof.Machine

/-- One digest context replaced. -/
def State.setCtx (s : State) (x : Fin 4) (c : Option Claim) : State :=
  { s with ctxs := put s.ctxs x c }

/-- The idle core takes the oldest chunk at once (R39). -/
def State.coreTake (s : State) : State :=
  match s.core, s.chunkQueue with
  | none, ch :: rest => { s with core := some ch, chunkQueue := rest }
  | _, _ => s

/-- A match report (R21): the mark, the count, the open-context list, and VERIFIED for a SIGNED
slot whose map is now full. -/
def State.segmentMatch (s : State) (x : Fin 4) (c : Claim) : State :=
  if s.reportApplies c.slot c.gen then
    let slot := s.slots[c.slot]
    let y := { slot with segMap := slot.segMap.set c.seg true,
                         openCtxs := slot.openCtxs.filter fun o => o != x }
    let t := s.setSlot c.slot y
    if y.state = .signed ∧ y.mapFull = true then s.conclude (t.verifySlot c.slot) else t
  else s

/-- A mismatch report (R22, R52): the slot is rejected, the detail holding the first four bytes of
the expected and of the computed digest. -/
def State.segmentMismatch (s : State) (c : Claim) (expected computed : List Byte) : State :=
  if s.reportApplies c.slot c.gen then
    s.conclude (s.reject c.slot .segMismatch (some (byteOf c.seg)) none
      (padTo 4 expected ++ padTo 4 computed))
  else s

/-- A context completes (R50): its digest is compared with the segment's entry, it becomes IDLE,
and the result is reported. -/
def State.completeCtx (s : State) (x : Fin 4) (c : Claim) : State :=
  let computed := sha256 c.folded
  let expected := digestEntry s.slots[c.slot].buffer c.seg
  let t := s.setCtx x none
  if computed = expected then t.segmentMatch x c else t.segmentMismatch c expected computed

/-- The claim that the core's finished chunk belongs to, if it still stands (R40). -/
def State.chunkClaim (s : State) (ch : Chunk) : Option Claim :=
  s.ctxs[ch.ctx].filter fun c => c.slot == ch.slot && c.gen == ch.gen

/-- A claim with a chunk folded in (R40). -/
def Claim.fold (c : Claim) (ch : Chunk) : Claim :=
  { c with folded := c.folded ++ ch.data, pendingChunks := c.pendingChunks - 1 }

/-- CHUNK_DIGESTED: the chunk is folded or discarded, its context may complete, and the core takes
the next chunk (R39, R40). -/
def State.finishChunk (s : State) : State :=
  match s.core with
  | none => s
  | some ch =>
    let t : State := { s with core := none }
    (match t.chunkClaim ch with
     | none => t
     | some c =>
       let d := c.fold ch
       if d.draining = true ∧ d.pendingChunks = 0 then t.completeCtx ch.ctx d
       else t.setCtx ch.ctx (some d)).coreTake

end Sys2Proof.Machine
end

