-- ==== Sys2Proof/Machine/ModeUnit.lean ====
section
/-! DEFINITION. The mode controller: resets, start-up, the boot clock and the boot window timer
(Chapters 8 and 9). -/

namespace Sys2Proof.Machine

/-! ### Resets (9.6) -/

/-- Fuse `f` of a floor row as a bit of the row; fuses are numbered 1–63. -/
def floorFuse (f : Nat) : BitVec 63 := if f = 0 then 0 else BitVec.twoPow 63 (f - 1)

/-- A fuse named within its row is burnt, whatever the row's kind. -/
def burnFuse (f : Fuses) (kind : FuseKind) (fuse : Nat) : Fuses :=
  match kind with
  | .floor _ c _ => { f with floors := put f.floors c (f.floors[c] ||| floorFuse fuse) }
  | .revoke _ _ => { f with revoke := f.revoke ||| BitVec.twoPow 10 fuse }
  | .enroll e => { f with entries := put f.entries e (f.entries[e] ||| BitVec.twoPow 585 fuse) }
  | .close => { f with closing := f.closing ||| BitVec.twoPow 281 fuse }

/-- The fuse under burn. -/
def FuseOp.fuse (op : FuseOp) : Nat := op.burnList.getD op.position 0

/-- A reset stops a running operation: the fuse under burn is left burnt or unburnt, a free value
(R95), and the fuses after it are not burnt. -/
def State.interruptBurn (s : State) : State :=
  match s.fuseOp with
  | none => s
  | some op =>
    { s with
      fuses := if Config.interruptedBurn s.freeCount then burnFuse s.fuses op.kind op.fuse
               else s.fuses
      fuseOp := none
      freeCount := s.freeCount + 1 }

/-- A window of Link M is open: CS_N is low (R173). -/
def State.windowOpen (s : State) : Bool := s.spi != .shut

/-- Every block at its cold reset value, but for what no reset changes: fuses, ROM and the levels
at the pins (Table 9-4, R89, R138, R149), and the model's own queue. A window that was open is ignored
up to its end (R173). -/
def State.cold (s : State) : State :=
  let t := s.interruptBurn
  { State.reset with
    fuses := t.fuses, freeCount := t.freeCount, rom := s.rom, pending := s.pending,
    resetNLow := s.resetNLow, supplyLow := s.supplyLow, spi := s.spi, windowIgnored := s.windowOpen,
    selfTest := !s.deaf }

/-- A cold reset (R149): at power-on the supplies are good; at a brown-out a supply is below its
threshold until it has recovered. STARTUP begins unless the part is held. -/
def State.coldReset (s : State) (cause : ColdCause) : State :=
  State.cold { s with supplyLow := decide (cause = .brownOut) }

/-- The failed-attempt count after a warm reset (R154). -/
def countedAttempts (v : Verdict) (count : Nat) : Nat :=
  if v = .printReady then count else min 255 (count + 1)

/-- A cause recorded: it becomes the last cause and joins the flags (R153). -/
def CauseRecord.note (r : CauseRecord) (c : ResetCause) : CauseRecord :=
  { last := c, flags := r.flags ||| BitVec.twoPow 4 (causeCode c) }

/-- A warm reset (R150, Table 9-4): the cold values, with the boot clock and the fault records
kept, the cause recorded and the failed-attempt count updated from the verdict. -/
def State.warmReset (s : State) (c : ResetCause) : State :=
  { s.cold with
    bootClock := s.bootClock, faults := s.faults, cause := s.cause.note c,
    failedCount := countedAttempts s.verdict s.failedCount }

/-- RESET_N_FALL: a falling edge detected takes a warm reset with cause PIN, and the part is held
(R151). With a supply below its threshold the level alone changes (assumption 8). -/
def State.resetFalls (s : State) : State :=
  if s.resetNLow then s
  else if s.supplyLow then { s with resetNLow := true }
  else State.warmReset { s with resetNLow := true } .pin

/-- RESET_N_RISE: the hold ends and STARTUP begins (R151). -/
def State.resetRises (s : State) : State :=
  if s.resetNLow then { s with resetNLow := false, selfTest := !s.supplyLow } else s

/-- SUPPLY_RECOVERED: every block holds its cold reset value and STARTUP begins unless RESET_N
reads low (R149). -/
def State.supplyRecovers (s : State) : State :=
  if s.supplyLow then s.coldReset .powerOn else s

/-! ### Boot window timer (Chapter 8) -/

/-- Microseconds of a tick interval, 2^p ms (R129). -/
def tickInterval (prescale : Nat) : Nat := 2 ^ prescale * 1000

/-- The count has become R div 4 (R130). -/
def Window.atLow (w : Window) : Bool := w.count == w.reload / 4

/-- A window with a new count and a fresh interval, WINDOW_LOW posted if the count is R div 4
(R128, R130, R132). -/
def State.setCount (s : State) (w : Window) (count : Nat) : State :=
  let w := { w with count := count, toTick := some (tickInterval w.prescale) }
  let t : State := { s with window := w }
  if w.atLow then t.post .windowLow else t

/-- Every PENDING class fails at expiry (R134, step 3). -/
def failedClasses (classes : Vector ClassRec 8) : Vector ClassRec 8 :=
  tabulate fun c =>
    if classes[c].state = .pending then { classes[c] with state := .failed } else classes[c]

/-- Lines with every HELD one LOCKED (R134, step 4). -/
def lockedLines (lines : Vector LineRec 6) : Vector LineRec 6 :=
  tabulate fun i =>
    if lines[i].state = .held then { lines[i] with state := .locked } else lines[i]

/-- New class records, with CLASS_CHANGE once if any of them changed (R106). -/
def State.moveClasses (s : State) (classes : Vector ClassRec 8) : State :=
  if classes = s.classes then s else ({ s with classes := classes } : State).post .classChange

/-- The expiry of the boot window, in the order R134 gives. -/
def State.expire (s : State) : State :=
  let w := s.window
  let s1 := (({ s with window := w.stop } : State).recordFault
    (faultOf .windowExpired [byteOf w.extUsed, byteOf w.reload, byteOf w.prescale])).post
    .windowExpired
  let s2 := s1.rejectAll s1.liveSlots .windowExpired none
  let s3 := s2.moveClasses (failedClasses s2.classes)
  (s3.moveLines (lockedLines s3.lines)).settleIfDecided

/-- A tick is due: the timer is running and its interval is over (R129). -/
def Window.tickDue (w : Window) : Bool := w.running && w.toTick == some 0

/-- A tick is taken where one is due (R129): it lowers the count, or at 0 is the expiry. A reload that
restarted the interval has put the tick off (R132, R133). -/
def State.tick (s : State) : State :=
  if s.window.tickDue then
    if s.window.count = 0 then s.expire else s.setCount s.window (s.window.count - 1)
  else s

/-- BOOT_WINDOW_EXPIRY: the tick taken at count 0 (R134). -/
def State.expiryTick (s : State) : State :=
  if s.window.tickDue ∧ s.window.count = 0 then s.expire else s

/-! ### Boot clock (R155) -/

/-- BOOT_CLOCK_MICROSECOND: the clock rises by one, wrapping, and the interval to the next tick is one
microsecond shorter (R129). A tick that is due is taken before, in an event of its own: DESIGN CHOICE,
assumption 9. -/
def State.clockRises (s : State) : State :=
  if s.supplyLow then s
  else
    let t := if s.window.tickDue then s.tick.commit else s
    { t with bootClock := t.bootClock + 1,
             window := { t.window with toTick := t.window.toTick.map fun n => n - 1 } }

/-! ### Start-up (9.2) -/

/-- The 144 bytes of the root table: root 0's key and label, then root 1's (R75). -/
def Rom.table (r : Rom) : List Byte :=
  r.roots[0].key.toList ++ r.roots[0].label.toList ++ r.roots[1].key.toList ++
    r.roots[1].label.toList

/-- Step 1 of the self-test: the computed digest where it differs from the reference (R75, R140). -/
def State.romFault (s : State) : Option FaultRecord :=
  let computed := sha256 s.rom.table
  let reference := s.rom.reference.toList
  if computed = reference then none
  else some (faultOf .selftestRom (padTo 4 computed ++ padTo 4 reference))

/-- The lowest fuse of a floor row reading 0, numbered from 1; 0 if every fuse reads 1. -/
def lowestUnburnt (row : BitVec 63) : Nat :=
  match (List.range 63).find? fun i => !row.getLsbD i with
  | some i => i + 1
  | none => 0

/-- The highest fuse of a floor row reading 1, numbered from 1; 0 if none does. -/
def highestBurnt (row : BitVec 63) : Nat :=
  match (List.range 63).reverse.find? fun i => row.getLsbD i with
  | some i => i + 1
  | none => 0

/-- A floor row passes when its burnt fuses are exactly fuses 1..F (R103). -/
def rowPasses (row : BitVec 63) : Bool := row == thermometer (burntCount row)

/-- Step 2 of the self-test: the first floor row, in class order, that is no thermometer (R103). -/
def State.floorFault (s : State) : Option FaultRecord :=
  match (indicesOf fun c : Fin 8 => !rowPasses s.fuses.floors[c]).head? with
  | none => none
  | some c =>
    let row := s.fuses.floors[c]
    some { faultOf .selftestFuse
      [byteOf (burntCount row), byteOf (lowestUnburnt row), byteOf (highestBurnt row)] with
      cls := some c }

/-- Step 3 of the self-test, on a closed part: the policy block's CRC and ranges (R104). -/
def State.policyFaultRecord (s : State) : Option FaultRecord :=
  let block := s.policyBlock
  let computed := (crc16 (block.take 33)).toNat
  let stored := leNat (slice block 33 2)
  if computed = stored ∧ policyInRange (block.take 33) = true then none
  else some (faultOf .selftestPolicy (leBytes 2 computed ++ leBytes 2 stored))

/-- The failed step of the self-test, if one failed: the steps in order, the later ones not run
(R139). -/
def State.selfTestFault (s : State) : Option FaultRecord :=
  match s.romFault with
  | some r => some r
  | none =>
    match s.floorFault with
    | some r => some r
    | none => if s.closedBurnt then s.policyFaultRecord else none

/-- The entry to FAILSAFE (R124, R140). -/
def State.enterFailsafe (s : State) (r : FaultRecord) : State :=
  { s.recordFault r with
    mode := .failsafe, verdict := .blocked,
    lines := tabulate fun i => { s.lines[i] with state := .locked } }

/-- Class records loaded from the policy in force (R105). -/
def loadedClasses (p : Policy) : Vector ClassRec 8 :=
  tabulate fun c =>
    { disposition := p.dispositions[c], linkMask := p.linkMasks[c],
      state := if p.dispositions[c] = .unused then .unused else .pending,
      attempts := 0, verifiedSlot := none }

/-- Line records loaded from the policy in force; a line with both masks empty is DISABLED
(R115). -/
def loadedLines (p : Policy) : Vector LineRec 6 :=
  tabulate fun i =>
    { need := p.need[i], soft := p.soft[i],
      state := if p.need[i] = 0 ∧ p.soft[i] = 0 then .disabled else .held }

/-- The timer as it takes the policy's values at the entry to VERIFY, before its load (R128). -/
def loadedWindow (p : Policy) : Window :=
  { count := 0, reload := p.reload.toNat, prescale := p.prescale.toNat,
    extMax := p.extMax.toNat, extUsed := 0, running := true, toTick := none }

/-- The entry to VERIFY (R141): class table, lines and boot window loaded; the part settles at once
if no line is left HELD. -/
def State.enterVerify (s : State) (p : Policy) : State :=
  let t : State := { s with mode := .verify, inForce := some p, classes := loadedClasses p,
                            lines := loadedLines p }
  (t.setCount (loadedWindow p) p.reload.toNat).settleIfDecided

/-- The settle under the retry limit (R123, R142). -/
def State.settleRetryLimit (s : State) (p : Policy) : State :=
  ({ s.recordFault (faultOf .retryLimit [byteOf s.failedCount, p.maxRetry]) with
     mode := .settled, verdict := .blocked, inForce := some p,
     classes := failedClasses (loadedClasses p), lines := lockedLines (loadedLines p) } :
    State).post .settled

/-- The policy that the block of a closed part holds (R101). -/
def State.burntPolicy (s : State) : Policy := policyOfBytes (s.policyBlock.take 33)

/-- SELFTEST_COMPLETE (R139 to R142). -/
def State.endSelfTest (s : State) : State :=
  if s.selfTest then
    let t : State := { s with selfTest := false }
    match t.selfTestFault with
    | some r => t.enterFailsafe r
    | none =>
      if t.closedBurnt then
        if t.burntPolicy.maxRetry.toNat < t.failedCount then t.settleRetryLimit t.burntPolicy
        else t.enterVerify t.burntPolicy
      else { t with mode := .provision }
  else s

end Sys2Proof.Machine
end

