-- ==== Sys2Proof/Machine/FuseUnit.lean ====
section
/-! DEFINITION. The fuse controller: burn lists, the read-back after a burn and the ends of an
operation (Chapter 6, R81, R82, R86, R87). -/

namespace Sys2Proof.Machine

/-! ### Burn lists -/

/-- Floor fuses F + 1 through T, ascending (R97). -/
def floorBurnList (f t : Nat) : List Nat := (List.range (t - f)).map fun i => f + 1 + i

/-- The 584 enrolment fuses of a role mask, a public key and a label, by their new values
(Table 5-1, Table 11-13). -/
def enrolmentBits (role : Byte) (key label : List Byte) : BitVec 585 :=
  BitVec.ofNat 585 (leNat (role :: padTo 64 key ++ padTo 8 label))

/-- The burn list of an enrolment: role fuses, data fuses, then the active fuse (R85). -/
def enrolBurnList (role : Byte) (key label : List Byte) : List Nat :=
  ((List.range 584).filter fun i => (enrolmentBits role key label).getLsbD i) ++ [activeFuse]

/-- The burn list of a close: the block fuses whose new value is 1, then the closed fuse (R102). -/
def closeBurnList (p : Policy) : List Nat :=
  ((List.range 280).filter fun i => (BitVec.ofNat 280 (leNat (blockBytes p))).getLsbD i) ++
    [closedFuse]

/-! ### Read-back -/

/-- The fuses of a list as bits of a row. -/
def fuseMask (w : Nat) (list : List Nat) : BitVec w :=
  list.foldl (fun m i => m ||| BitVec.twoPow w i) 0

/-- The fuses of a row read wrong at a read-back of an enrolment or a close (R86, R102). Burnt ones
of the list must read 1, fuses outside the list 0, and the closing fuse, the list's last, 0 before
its own burn. -/
def wrongFuses (w : Nat) (list : List Nat) (position last : Nat) (row : BitVec w) : BitVec w :=
  (fuseMask w (list.take (position + 1)) &&& ~~~row) ||| (row &&& ~~~(fuseMask w list)) |||
    (if position + 1 < list.length then row &&& BitVec.twoPow w last else 0)

/-- The comparison after a burn (R98, R100, R86, R102). -/
def readBackGood (f : Fuses) (op : FuseOp) : Bool :=
  match op.kind with
  | .floor _ c _ => f.floors[c] == thermometer op.fuse
  | .revoke _ before => f.revoke == before ||| BitVec.twoPow 10 op.fuse
  | .enroll e => wrongFuses 585 op.burnList op.position activeFuse f.entries[e] == 0
  | .close => wrongFuses 281 op.burnList op.position closedFuse f.closing == 0

/-- The array as the read-back finds it: the fuse under burn if its burn took, and other fuses of
its row that read 1 (R93). A fuse that reads 1 stays so (R89). -/
def arrayAfterBurn (f : Fuses) (op : FuseOp) (took : Bool) (strays : List Nat) : Fuses :=
  (strays.filter fun i => i != op.fuse).foldl (fun g i => burnFuse g op.kind i)
    (if took then burnFuse f op.kind op.fuse else f)

/-- The first wrong fuse of a row, in the order of its numbers (Table 6-4, note 1). -/
def firstWrong {w : Nat} (wrong : BitVec w) : Nat :=
  ((List.range w).find? fun i => wrong.getLsbD i).getD 0

/-- FUSE_FAULT (Tables 6-4 and 11-13), for the array as read after the failure. -/
def State.fuseFaultRecord (s : State) (op : FuseOp) : FaultRecord :=
  match op.kind with
  | .floor i c target =>
    { faultOf .fuseFault [byteOf op.fuse, byteOf (s.floor c), byteOf target] with
      link := some op.link, slot := some i, cls := some c }
  | .revoke k _ =>
    { faultOf .fuseFault [flagByte (s.revokeBurnt k)] with link := some op.link, key := some k }
  | .enroll e =>
    { faultOf .fuseFault
        (leBytes 2 (op.position + 1) ++
          leBytes 2 (firstWrong
            (wrongFuses 585 op.burnList op.position activeFuse s.fuses.entries[e]))) with
      link := some op.link, key := some (keyOfEntry e) }
  | .close => { faultOf .fuseFault (leBytes 2 op.fuse) with link := some op.link }

/-! ### Ends -/

/-- CHECKING or SIGNED slots whose key index is a key, ascending (Table 1-7). -/
def State.boundSlots (s : State) (k : Fin 10) : List (Fin 12) :=
  indicesOf fun i => (s.slots[i].state == .checking || s.slots[i].state == .signed) &&
    s.slots[i].keyIndex == some k

/-- The rejection order of a revocation, and the exhaustion of the classes it leaves (R81, R112). -/
def State.rejectBound (s : State) (k : Fin 10) : State :=
  s.conclude (s.rejectAll (s.boundSlots k) .keyRevoked (some k))

/-- The end of an operation with good read-back (R81, R87, R94, R102, R148). -/
def State.endOperation (s : State) (op : FuseOp) : State :=
  let t : State := { s with fuseOp := none }
  match op.kind with
  | .floor _ _ _ => t.post .fuseDone
  | .revoke k _ => (t.endReservation.rejectBound k).post .fuseDone
  | .enroll _ => t.post .fuseDone
  | .close => t.warmReset .provisionClose

/-- A read-back failure (R82, R93, R102, R148). -/
def State.failOperation (s : State) (op : FuseOp) : State :=
  let t := (({ s with fuseOp := none } : State).recordFault (s.fuseFaultRecord op)).post .fuseDone
  match op.kind with
  | .floor _ _ _ => t
  | .revoke k _ =>
    if t.revokeBurnt k then t.endReservation.rejectBound k else t.endReservation
  | .enroll _ => t
  | .close => if t.closedBurnt then t.warmReset .provisionClose else t

/-- FUSE_BURN_COMPLETE (R92): the burn and its read-back complete; the operation goes on, ends or
stops. -/
def State.finishBurn (s : State) (took : Bool) (strays : List Nat) : State :=
  match s.fuseOp with
  | none => s
  | some op =>
    let t : State := { s with fuses := arrayAfterBurn s.fuses op took strays }
    if readBackGood t.fuses op then
      if op.position + 1 < op.burnList.length then
        { t with fuseOp := some { op with position := op.position + 1 } }
      else t.endOperation op
    else t.failOperation op

end Sys2Proof.Machine
end

