-- ==== Sys2Proof/Machine/Replies.lean ====
section
/-! DEFINITION. The reply payloads that report records whole: STATUS, SLOT_QUERY, KEY_QUERY, IDENTIFY
and FAULT_READ (11.9), and the answers a request handler gives. -/

namespace Sys2Proof.Machine

/-- What a request is answered: a status and a payload. -/
structure Answer where
  status  : Status
  payload : List Byte
deriving DecidableEq, Repr

/-- A request's effect and its ordinary reply; a WAIT that passes its checks makes none (R171). -/
abbrev Served := State × Option Answer

/-- A request handler: the link, the frame and the state it is taken in. -/
abbrev Handler := Link → Frame → State → Served

/-- An answer given with a state. -/
def serve (s : State) (status : Status) (payload : List Byte) : Served :=
  (s, some ⟨status, payload⟩)

/-- A refusal whose reply payload is all zero: nothing changes (R170). -/
def refuse (k : Kind) (s : State) (status : Status) : Served := serve s status (zeros (replySize k))

/-- IDENTIFY (R181, Table 11-9). -/
def identifyPayload (s : State) : List Byte :=
  leBytes 2 0x4156 ++ leBytes 2 0x0640 ++ [1] ++ s.rom.serial.toList ++
    [modeCode s.mode, flagByte s.closedBurnt]

/-- How many slots are FREE, and how many contexts IDLE. -/
def State.freeSlots (s : State) : Nat := (List.finRange 12).countP fun i => s.slots[i].state == .free
def State.idleCtxs (s : State) : Nat := (List.finRange 4).countP fun x => s.ctxs[x].isNone

/-- The eight floors (R31). -/
def State.floorBytes (s : State) : List Byte := (List.finRange 8).map fun c => byteOf (s.floor c)

/-- The verified slot of a class as STATUS carries it; 0xFF where absent (Table 11-10). -/
def verifiedSlotByte (x : ClassRec) : Byte :=
  match x.verifiedSlot with
  | some i => byteOf i
  | none => 0xFF

/-- STATUS (R182, Table 11-10). -/
def statusPayload (l : Link) (s : State) : List Byte :=
  [modeCode s.mode, verdictCode s.verdict] ++ leBytes 6 s.bootClock.toNat ++
    [byteOf s.window.count, byteOf s.window.prescale, byteOf s.window.extUsed] ++
    (List.finRange 6).map (fun i => lineStateCode s.lines[i].state) ++
    (List.finRange 8).map (fun c => classStateCode s.classes[c].state) ++
    (List.finRange 8).map (fun c => byteOf s.classes[c].attempts) ++
    (List.finRange 8).map (fun c => verifiedSlotByte s.classes[c]) ++
    s.floorBytes ++ leBytes 2 (s.link l).flags.toNat ++
    [s.fuseCode, byteOf s.jobDepth, byteOf s.idleCtxs, byteOf s.freeSlots,
      byteOf (causeCode s.cause.last), s.cause.flags.setWidth 8, byteOf s.failedCount]

/-- The parsed part of a SLOT_QUERY reply, bytes 7–46; zero where absent (Table 11-11). -/
def parsedBytes : Option Parsed → List Byte
  | some p =>
    leBytes 2 p.version ++ [byteOf p.epoch] ++ leBytes 4 p.imageLen ++ [byteOf p.exponent, p.flags] ++
      leBytes 2 p.segCount ++ [byteOf p.key] ++ padTo 28 p.label
  | none => zeros 40

/-- SLOT_QUERY (R24, Table 11-11). -/
def slotQueryPayload (x : Slot) : List Byte :=
  [slotStateCode x.state, x.gen] ++ leBytes 2 x.buffer.length ++
    [flagByte x.cls.isSome ||| (flagByte x.parsed.isSome <<< 1) ||| (flagByte x.reason.isSome <<< 2),
      ((x.cls.map fun c => byteOf c).getD 0), ((x.owner.map linkCode).getD 0)] ++
    parsedBytes x.parsed ++ leBytes 2 (matchedCount x.segMap) ++ packBits 32 x.segMap ++
    [sigCode x.sig, ((x.reason.map faultCode).getD 0), byteOf x.openCtxs.length] ++
    padTo 4 (x.openCtxs.map fun o => byteOf o)

/-- KEY_QUERY (R77, Table 11-9). -/
def keyQueryPayload (s : State) (k : Fin 10) : List Byte :=
  [keyStateCode (s.keyState k), s.roleMask k] ++ s.keyLabel k ++ (sha256 (s.keyBytes k)).take 8 ++
    [flagByte (s.keyBlank k), flagByte (s.revoking == some k)] ++ s.floorBytes

/-- A fault record as FAULT_READ carries it (Table 11-12). -/
def faultBytes (r : FaultRecord) : List Byte :=
  leBytes 6 r.stamp.toNat ++
    [faultCode r.code,
      flagByte r.link.isSome ||| (flagByte r.slot.isSome <<< 1) ||| (flagByte r.cls.isSome <<< 2) |||
        (flagByte r.seg.isSome <<< 3) ||| (flagByte r.key.isSome <<< 4),
      ((r.link.map linkCode).getD 0), ((r.slot.map fun i => byteOf i).getD 0),
      ((r.cls.map fun c => byteOf c).getD 0), (r.seg.getD 0), ((r.key.map fun k => byteOf k).getD 0)] ++
    padTo 8 r.detail

end Sys2Proof.Machine
end

