-- ==== Sys2Proof/Machine/ClassRequests.lean ====
section
/-! DEFINITION. The requests on the class table and the boot window: CLASS_DECLINE and
WINDOW_EXTEND (Chapters 7 and 8). -/

namespace Sys2Proof.Machine

/-- Checks 3 and 4 of CLASS_DECLINE (R113). -/
def declineRefusal (x : ClassRec) : Option Status :=
  if x.disposition ≠ .optional then some .notOptional
  else match x.state with
  | .pending => none
  | .verified => some .classDone
  | .declined => some .classClosed
  | .failed => some .classClosed
  | .unused => some .classClosed

/-- A class is declined (R114): DECLINED, its live slots rejected, CLASS_CHANGE and the lines
evaluated. -/
def State.decline (s : State) (c : Fin 8) : State :=
  let t := s.setClass c { s.classes[c] with state := .declined }
  ((t.rejectAll (t.liveOfClass c) .declined none).post .classChange).gate

/-- CLASS_DECLINE (R113, R114). -/
def takeClassDecline : Handler := fun _ f s =>
  if s.mode ≠ .verify then refuse .classDecline s .wrongMode
  else match index? 8 (byteAt f.payload 0).toNat with
  | none => refuse .classDecline s .badIndex
  | some c =>
    match declineRefusal s.classes[c] with
    | some status => refuse .classDecline s status
    | none => serve (s.decline c) .ok []

/-- The count and extensions used, as WINDOW_EXTEND replies carry them (R131, R132). -/
def windowBytes (w : Window) : List Byte := [byteOf w.count, byteOf w.extUsed]

/-- An extension: the count reloaded, the interval restarted, one extension used up (R132). -/
def State.extendWindow (s : State) : State :=
  s.setCount { s.window with extUsed := s.window.extUsed + 1 } s.window.reload

/-- WINDOW_EXTEND (R131, R132). -/
def takeWindowExtend : Handler := fun _ _ s =>
  if s.mode ≠ .verify then serve s .wrongMode (windowBytes s.window)
  else if s.window.extMax ≤ s.window.extUsed then serve s .noExtension (windowBytes s.window)
  else serve s.extendWindow .ok (windowBytes s.extendWindow.window)

end Sys2Proof.Machine
end

