-- ==== Sys2Proof/Machine/EventRequests.lean ====
section
/-! DEFINITION. The requests of every mode that act on the requesting link or report the part:
IDENTIFY, STATUS, EVENT_MASK, EVENT_CLEAR, WAIT, FAULT_READ and RESTART. -/

namespace Sys2Proof.Machine

/-- IDENTIFY (R181). -/
def takeIdentify : Handler := fun _ _ s => serve s .ok (identifyPayload s)

/-- STATUS (R182). -/
def takeStatus : Handler := fun l _ s => serve s .ok (statusPayload l s)

/-- EVENT_MASK (R163). -/
def takeEventMask : Handler := fun l f s =>
  let mask := maskOperand f.payload
  serve (s.onLink l fun x => { x with attnMask := mask }) .ok
    (leBytes 2 mask.toNat ++ leBytes 2 (s.link l).flags.toNat)

/-- EVENT_CLEAR (R162). -/
def takeEventClear : Handler := fun l f s =>
  let left := (s.link l).flags &&& ~~~(maskOperand f.payload)
  serve (s.onLink l fun x => { x with flags := left }) .ok (leBytes 2 left.toNat)

/-- WAIT (R165): refused with an ordinary reply, answered at once into the WAIT entry, or parked. -/
def takeWait : Handler := fun l f s =>
  let mask := maskOperand f.payload
  let x := s.link l
  if mask = 0 then refuse .wait s .badIndex
  else if x.waitOutstanding then refuse .wait s .waitBusy
  else if x.flags &&& mask = 0 then
    (s.onLink l fun x => { x with parked := some { mask := mask, tag := f.tag } }, none)
  else (s.onLink l fun x => { x with waitReply := some (waitAnswer f.tag x.flags) }, none)

/-- FAULT_READ (R160). -/
def takeFaultRead : Handler := fun _ f s =>
  match index? 4 (byteAt f.payload 0).toNat with
  | none => refuse .faultRead s .badIndex
  | some i => serve s .ok (byteOf i :: faultBytes s.faults[i])

/-- RESTART (R152): on Link M, restart pending; on Link E, LINK_DENIED. -/
def takeRestart : Handler := fun l _ s =>
  match l with
  | .m => serve { s with restartPending := true } .ok []
  | .e => refuse .restart s .linkDenied

end Sys2Proof.Machine
end

