-- ==== Sys2Proof/Machine/KeyRequests.lean ====
section
/-! DEFINITION. The requests on the key ring: KEY_QUERY, KEY_REVOKE and KEY_ENROLL (Chapter 5). -/

namespace Sys2Proof.Machine

/-- KEY_QUERY (R77). -/
def takeKeyQuery : Handler := fun _ f s =>
  match index? 10 (byteAt f.payload 0).toNat with
  | none => refuse .keyQuery s .badIndex
  | some k => serve s .ok (keyQueryPayload s k)

/-- The signer of a notice, where check 3 of KEY_REVOKE passes: 0 or 1, ACTIVE, and not the target
(R78). -/
def State.noticeSigner (s : State) (signer : Nat) (target : Fin 10) : Option (Fin 2) :=
  match index? 2 signer with
  | none => none
  | some r =>
    if s.keyState (signerKey r) = .active ∧ signerKey r ≠ target then some r else none

/-- An accepted KEY_REVOKE: reservation, pending record and job (R79). -/
def State.acceptNotice (s : State) (l : Link) (target : Fin 10) (signer : Fin 2)
    (signature : List Byte) : State :=
  ({ s with reserved := true, revoking := some target } : State).placeJob
    (.revoke l target signer signature)

/-- KEY_REVOKE (R78, R79, Table 5-3). -/
def takeKeyRevoke : Handler := fun l f s =>
  if !(s.mode == .verify || s.mode == .settled) then refuse .keyRevoke s .wrongMode
  else match index? 10 (byteAt f.payload 0).toNat with
  | none => refuse .keyRevoke s .badIndex
  | some target =>
    if s.keyState target ≠ .active then refuse .keyRevoke s .keyState
    else match s.noticeSigner (byteAt f.payload 1).toNat target with
    | none => refuse .keyRevoke s .badSigner
    | some signer =>
      if !s.fusesIdle then refuse .keyRevoke s .retryLater
      else if !s.queueRoom then refuse .keyRevoke s .retryLater
      else serve (s.acceptNotice l target signer (slice f.payload 2 64)) .accepted [byteOf target]

/-- KEY_ENROLL (R84, R85). -/
def takeKeyEnroll : Handler := fun l f s =>
  if s.mode ≠ .provision then refuse .keyEnroll s .wrongMode
  else if l = .e then refuse .keyEnroll s .linkDenied
  else match (index? 10 (byteAt f.payload 0).toNat).bind otpEntry with
  | none => refuse .keyEnroll s .badIndex
  | some e =>
    if s.keyState (keyOfEntry e) ≠ .empty then refuse .keyEnroll s .keyState
    else if !s.fusesIdle then refuse .keyEnroll s .retryLater
    else
      let list := enrolBurnList (byteAt f.payload 1) (slice f.payload 2 64) (slice f.payload 66 8)
      serve { s with fuseOp := some { kind := .enroll e, burnList := list, position := 0,
                                      link := l } }
        .accepted (byteOf (keyOfEntry e) :: leBytes 2 list.length)

end Sys2Proof.Machine
end

