-- ==== Sys2Proof/Machine/PolicyRequests.lean ====
section
/-! DEFINITION. The requests on the policy: POLICY_SET, POLICY_GET and PROVISION_CLOSE
(Chapter 9). -/

namespace Sys2Proof.Machine

/-- POLICY_SET (R145). -/
def takePolicySet : Handler := fun l f s =>
  if s.mode ≠ .provision then refuse .policySet s .wrongMode
  else if l = .e then refuse .policySet s .linkDenied
  else match badDisposition f.payload with
  | some c => serve s .badIndex (byteOf c :: zeros 33)
  | none =>
    if !s.fusesIdle then refuse .policySet s .retryLater
    else
      let p := clampPolicy (policyOfBytes f.payload)
      serve { s with staging := p } .ok (0 :: policyBytes p)

/-- POLICY_GET (R146): the source, 0 STAGED or 1 IN_FORCE, and the 33 field bytes. -/
def takePolicyGet : Handler := fun l _ s =>
  if s.mode = .startup ∨ s.mode = .failsafe then refuse .policyGet s .wrongMode
  else if l = .e then refuse .policyGet s .linkDenied
  else if s.mode = .provision then serve s .ok (0 :: policyBytes s.staging)
  else serve s .ok (1 :: policyBytes (s.inForce.getD Policy.defaults))

/-- PROVISION_CLOSE (R147, R148). -/
def takeProvisionClose : Handler := fun l _ s =>
  if s.mode ≠ .provision then refuse .provisionClose s .wrongMode
  else if l = .e then refuse .provisionClose s .linkDenied
  else match policyFault s.staging with
  | some (condition, index) =>
    serve s .policyInvalid [byteOf condition, byteOf index, 0, 0]
  | none =>
    if !s.fusesIdle then refuse .provisionClose s .retryLater
    else
      let list := closeBurnList s.staging
      serve { s with fuseOp := some { kind := .close, burnList := list, position := 0,
                                      link := l } }
        .accepted ([0, 0] ++ leBytes 2 list.length)

end Sys2Proof.Machine
end

