-- ==== Sys2Proof/Machine/SlotRequests.lean ====
section
/-! DEFINITION. The requests on slots: SLOT_OPEN, MAN_DATA, MAN_CLOSE, SLOT_QUERY, SLOT_DROP and
FLOOR_ADVANCE (Chapters 1, 2, 6 and 7). -/

namespace Sys2Proof.Machine

/-- The modes in which slot-level requests are accepted (R5, Table 9-3). -/
def State.slotMode (s : State) : Bool := s.mode == .verify || s.mode == .settled

/-- Class-side checks 3 to 7 of SLOT_OPEN (Table 7-3, R108). -/
def classRefusal (x : ClassRec) (l : Link) : Option Status :=
  match x.state with
  | .unused => some .classUnused
  | .verified => some .classDone
  | .declined => some .classClosed
  | .failed => some .classClosed
  | .pending =>
    if !x.linkMask.getLsbD (linkCode l).toNat then some .linkDenied
    else if x.attempts = 3 then some .classExhausted else none

/-- A slot as SLOT_OPEN claims it (R6). -/
def Slot.opened (x : Slot) (c : Fin 8) (l : Link) : Slot :=
  { Slot.freed (x.gen + 1) with state := .loading, cls := some c, owner := some l }

/-- SLOT_OPEN (R6, R108). -/
def takeSlotOpen : Handler := fun l f s =>
  if s.mode ≠ .verify then refuse .slotOpen s .wrongMode
  else match index? 8 (byteAt f.payload 0).toNat with
  | none => refuse .slotOpen s .badIndex
  | some c =>
    match classRefusal s.classes[c] l with
    | some status => refuse .slotOpen s status
    | none =>
      match s.freeSlot with
      | none => refuse .slotOpen s .noSlot
      | some i =>
        let x := s.slots[i].opened c l
        serve ((s.setSlot i x).setClass c
          { s.classes[c] with attempts := s.classes[c].attempts + 1 }) .ok [byteOf i, x.gen]

/-- Checks 1 to 3 of MAN_DATA on its slot, then R7's own: the refusal, if there is one. -/
def manDataRefusal (x : Slot) (offset : Nat) (data : List Byte) : Option Status :=
  if x.state ≠ .loading then some .slotState
  else if data.length < 1 ∨ 1024 < data.length then some .badLength
  else if offset ≠ x.buffer.length then some .offset
  else if maxManifest < offset + data.length then some .overflow else none

/-- MAN_DATA (R7). -/
def takeManData : Handler := fun l f s =>
  if !s.slotMode then refuse .manData s .wrongMode
  else match index? 12 (byteAt f.payload 0).toNat with
  | none => refuse .manData s .badIndex
  | some i =>
    let x := s.slots[i]
    let data := f.payload.drop 3
    if !x.ownedBy l then serve s .notOwner (leBytes 2 x.buffer.length)
    else match manDataRefusal x (leNat (slice f.payload 1 2)) data with
    | some status => serve s status (leBytes 2 x.buffer.length)
    | none =>
      serve (s.setSlot i { x with buffer := x.buffer ++ data }) .ok
        (leBytes 2 (x.buffer ++ data).length)

/-- A failed manifest check: its code, and the key index and detail of its fault (Table 1-6). -/
structure CheckFailure where
  code   : FaultCode
  key    : Option (Fin 10)
  detail : List Byte
deriving DecidableEq, Repr

/-- Checks 4 to 7 of MAN_CLOSE on a key index 0–9 (R12, R32). -/
def State.keyChecks (s : State) (c : Fin 8) (h : Head) (k : Fin 10) : Option CheckFailure :=
  if s.keyState k = .empty then some ⟨.badKey, some k, []⟩
  else if s.revokeBurnt k then some ⟨.keyRevoked, some k, []⟩
  else if !(s.roleMask k).getLsbD c then some ⟨.keyRole, some k, []⟩
  else if epochOf h.version < s.floor c then
    some ⟨.rollback, none, [byteOf (epochOf h.version), byteOf (s.floor c)]⟩
  else none

/-- Checks 1 to 7 of MAN_CLOSE, in order, on a slot of a class: the failure, or the parsed fields
(R9 to R14, Table 1-5). -/
def State.manifestChecks (s : State) (c : Fin 8) (buffer : List Byte) :
    Except CheckFailure Parsed :=
  let h := readHead buffer
  let received := leBytes 2 buffer.length
  if 48 ≤ buffer.length ∧ headerOk h = false then .error ⟨.badHeader, none, received⟩
  else if buffer.length < 48 ∨ h.format ≠ 1 then .error ⟨.badFormat, none, received⟩
  else if geometryOk h buffer.length c = false then
    .error ⟨.badGeometry, none, byteOf h.exponent :: leBytes 2 h.segCount ++ leBytes 4 h.imageLen⟩
  else match index? 10 h.key with
  | none => .error ⟨.badKey, none, []⟩
  | some k =>
    match s.keyChecks c h k with
    | some e => .error e
    | none => .ok (parsedOf h k)

/-- A slot as a passing MAN_CLOSE leaves it (R14). -/
def Slot.closedWith (x : Slot) (p : Parsed) : Slot :=
  { x with state := .checking, parsed := some p, segMap := List.replicate p.segCount false,
           sig := .pending }

/-- MAN_CLOSE on a LOADING slot of a class (R9, R13 to R15). -/
def State.closeManifest (s : State) (i : Fin 12) (c : Fin 8) : Served :=
  let x := s.slots[i]
  match s.manifestChecks c x.buffer with
  | .error e =>
    serve (s.conclude (s.reject i e.code none e.key e.detail)) (.rejects e.code) (zeros 3)
  | .ok p =>
    if s.queueRoom then
      serve ((s.setSlot i (x.closedWith p)).placeJob (.manifest i x.gen)) .accepted
        (leBytes 2 p.segCount ++ [byteOf p.epoch])
    else refuse .manClose s .retryLater

/-- MAN_CLOSE (R5, R9). -/
def takeManClose : Handler := fun l f s =>
  if !s.slotMode then refuse .manClose s .wrongMode
  else match index? 12 (byteAt f.payload 0).toNat with
  | none => refuse .manClose s .badIndex
  | some i =>
    let x := s.slots[i]
    if !x.ownedBy l then refuse .manClose s .notOwner
    else if x.state ≠ .loading then refuse .manClose s .slotState
    else s.closeManifest i (x.cls.getD 0)

/-- SLOT_QUERY (R24). -/
def takeSlotQuery : Handler := fun _ f s =>
  if !s.slotMode then refuse .slotQuery s .wrongMode
  else match index? 12 (byteAt f.payload 0).toNat with
  | none => refuse .slotQuery s .badIndex
  | some i => serve s .ok (slotQueryPayload s.slots[i])

/-- A slot dropped (R23): a live one is released and the class table told; the slot becomes FREE
and keeps its generation. A FREE slot is left as it was. -/
def State.drop (s : State) (i : Fin 12) : State :=
  let x := s.slots[i]
  if x.state = .free then s
  else if x.live then s.conclude ((s.release i).setSlot i (Slot.freed x.gen))
  else s.setSlot i (Slot.freed x.gen)

/-- SLOT_DROP (R23). -/
def takeSlotDrop : Handler := fun l f s =>
  if !s.slotMode then refuse .slotDrop s .wrongMode
  else match index? 12 (byteAt f.payload 0).toNat with
  | none => refuse .slotDrop s .badIndex
  | some i =>
    let x := s.slots[i]
    if !x.ownedBy l then refuse .slotDrop s .notOwner
    else if x.state = .verified then refuse .slotDrop s .slotHeld
    else serve (s.drop i) .ok []

/-- MAX_STEP of the policy in force (R33). -/
def State.maxStep (s : State) : Nat := (s.inForce.getD Policy.defaults).maxStep.toNat

/-- The floor of a slot's class as FLOOR_ADVANCE replies carry it; zero for a slot without a class
(R96). -/
def State.slotFloor (s : State) (x : Slot) : Nat := (x.cls.map s.floor).getD 0

/-- Checks 4 to 6 of FLOOR_ADVANCE (R96). -/
def State.advanceRefusal (s : State) (x : Slot) : Option Status :=
  if x.state ≠ .verified then some .slotState
  else if !((x.parsed.map fun p => p.flags.getLsbD 0).getD false) then some .notAdvance
  else if !s.fusesIdle then some .retryLater else none

/-- FLOOR_ADVANCE on a slot that has passed its checks (R34, R35, R97). -/
def State.advance (s : State) (l : Link) (i : Fin 12) (c : Fin 8) (epoch : Nat) : Served :=
  let f := s.floor c
  let t := min epoch (f + s.maxStep)
  if t ≤ f then serve s .ok [byteOf f, byteOf t]
  else serve { s with fuseOp := some { kind := .floor i c t, burnList := floorBurnList f t,
                                       position := 0, link := l } }
    .accepted [byteOf f, byteOf t]

/-- FLOOR_ADVANCE (R96). -/
def takeFloorAdvance : Handler := fun l f s =>
  if !s.slotMode then refuse .floorAdvance s .wrongMode
  else match index? 12 (byteAt f.payload 0).toNat with
  | none => refuse .floorAdvance s .badIndex
  | some i =>
    let x := s.slots[i]
    if !x.ownedBy l then serve s .notOwner [byteOf (s.slotFloor x), 0]
    else match s.advanceRefusal x with
    | some status => serve s status [byteOf (s.slotFloor x), 0]
    | none => s.advance l i (x.cls.getD 0) ((x.parsed.map fun p => p.epoch).getD 0)

end Sys2Proof.Machine
end

