-- ==== Sys2Proof/Machine/SegmentRequests.lean ====
section
/-! DEFINITION. The segment requests: SEG_OPEN, SEG_DATA and SEG_CLOSE (Chapter 3). -/

namespace Sys2Proof.Machine

/-- A claimed context holds a segment of a slot (R42). -/
def State.segmentBusy (s : State) (i : Fin 12) (j : Nat) : Bool :=
  (List.finRange 4).any fun x =>
    match s.ctxs[x] with
    | some c => c.slot == i && c.seg == j
    | none => false

/-- The segment checks of SEG_OPEN (R42). -/
def State.segmentRefusal (s : State) (i : Fin 12) (p : Parsed) (j : Nat) : Option Status :=
  if p.segCount ≤ j then some .badIndex
  else if s.slots[i].segMap.getD j false then some .segDone
  else if s.segmentBusy i j then some .segBusy else none

/-- A claim as SEG_OPEN makes it (R43). -/
def openedClaim (i : Fin 12) (gen : Byte) (p : Parsed) (j : Nat) : Claim :=
  { slot := i, gen := gen, seg := j, len := segmentLen p j, received := 0, pendingChunks := 0,
    folded := [], draining := false }

/-- SEG_OPEN on a slot with parsed fields that is CHECKING or SIGNED (R42, R43). -/
def State.openSegment (s : State) (i : Fin 12) (p : Parsed) (j : Nat) : Served :=
  match s.segmentRefusal i p j with
  | some status => refuse .segOpen s status
  | none =>
    match s.idleCtx with
    | none => refuse .segOpen s .noContext
    | some x =>
      let slot := s.slots[i]
      serve ((s.setCtx x (some (openedClaim i slot.gen p j))).setSlot i
          { slot with openCtxs := slot.openCtxs ++ [x] }) .ok
        (byteOf x :: leBytes 4 (segmentLen p j))

/-- SEG_OPEN (R41). -/
def takeSegOpen : Handler := fun l f s =>
  if !s.slotMode then refuse .segOpen s .wrongMode
  else match index? 12 (byteAt f.payload 0).toNat with
  | none => refuse .segOpen s .badIndex
  | some i =>
    let x := s.slots[i]
    if !x.ownedBy l then refuse .segOpen s .notOwner
    else if x.state ≠ .checking ∧ x.state ≠ .signed then refuse .segOpen s .slotState
    else match x.parsed with
    | none => refuse .segOpen s .slotState
    | some p => s.openSegment i p (leNat (slice f.payload 1 2))

/-- Check 2 of SEG_DATA and SEG_CLOSE: the context and the claim that the request names (R44). -/
def State.namedClaim (s : State) (payload : List Byte) : Option (Fin 4 × Claim) :=
  match index? 4 (byteAt payload 0).toNat, index? 12 (byteAt payload 1).toNat with
  | some x, some i =>
    match s.ctxs[x] with
    | some c =>
      if c.slot = i ∧ c.gen = byteAt payload 2 ∧ c.seg = leNat (slice payload 3 2) then some (x, c)
      else none
    | none => none
  | _, _ => none

/-- The request arrived on the owner link of the claim's slot (R44). -/
def State.claimOwnedBy (s : State) (c : Claim) (l : Link) : Bool := s.slots[c.slot].owner == some l

/-- The checks of SEG_DATA on the context and the data (R45). -/
def segDataRefusal (c : Claim) (offset : Nat) (data : List Byte) : Option Status :=
  if c.draining then some .slotState
  else if data.length < 1 ∨ 1024 < data.length then some .badLength
  else if offset ≠ c.received then some .offset
  else if c.len < offset + data.length then some .overflow else none

/-- An accepted chunk: appended at the tail, counted, and taken by the core if it is idle (R46). -/
def State.acceptChunk (s : State) (x : Fin 4) (c : Claim) (data : List Byte) : State :=
  let t := s.setCtx x (some { c with received := c.received + data.length,
                                     pendingChunks := c.pendingChunks + 1 })
  ({ t with chunkQueue := t.chunkQueue ++
      [{ ctx := x, slot := c.slot, gen := c.gen, offset := c.received, data := data }] } :
    State).coreTake

/-- SEG_DATA (R44 to R47). -/
def takeSegData : Handler := fun l f s =>
  if !s.slotMode then refuse .segData s .wrongMode
  else match s.namedClaim f.payload with
  | none => refuse .segData s .badIndex
  | some (x, c) =>
    let data := f.payload.drop 7
    if !s.claimOwnedBy c l then serve s .notOwner (leBytes 4 c.received)
    else match segDataRefusal c (leNat (slice f.payload 5 2)) data with
    | some status => serve s status (leBytes 4 c.received)
    | none =>
      if 8 ≤ s.chunkQueue.length then serve s .retryLater (leBytes 4 c.received)
      else serve (s.acceptChunk x c data) .ok (leBytes 4 (c.received + data.length))

/-- SEG_CLOSE of a fully received FILLING context: DRAINING, or complete at once (R48). -/
def State.closeSegment (s : State) (x : Fin 4) (c : Claim) : Served :=
  let d := { c with draining := true }
  if c.pendingChunks = 0 then serve (s.completeCtx x d) .ok [ctxCode none]
  else serve (s.setCtx x (some d)) .ok [ctxCode (some d)]

/-- SEG_CLOSE (R48). -/
def takeSegClose : Handler := fun l f s =>
  if !s.slotMode then refuse .segClose s .wrongMode
  else match s.namedClaim f.payload with
  | none => refuse .segClose s .badIndex
  | some (x, c) =>
    if !s.claimOwnedBy c l then serve s .notOwner [ctxCode (some c)]
    else if c.draining then serve s .slotState [ctxCode (some c)]
    else if c.received ≠ c.len then serve s .short [ctxCode (some c)]
    else s.closeSegment x c

end Sys2Proof.Machine
end

