-- ==== Sys2Proof/Machine/Links.lean ====
section
/-! DEFINITION. The link interfaces: the frame checks and the taking of a request, the arrival of a
complete frame on each link, abandoned frames, and replies that leave or are removed
(Chapter 11). -/

namespace Sys2Proof.Machine

/-! ### Taking a request (R170, R171) -/

/-- The handler of each request kind. -/
def handlerOf : Kind → Handler
  | .identify => takeIdentify
  | .status => takeStatus
  | .eventMask => takeEventMask
  | .eventClear => takeEventClear
  | .wait => takeWait
  | .slotOpen => takeSlotOpen
  | .manData => takeManData
  | .manClose => takeManClose
  | .segOpen => takeSegOpen
  | .segData => takeSegData
  | .segClose => takeSegClose
  | .slotQuery => takeSlotQuery
  | .slotDrop => takeSlotDrop
  | .classDecline => takeClassDecline
  | .windowExtend => takeWindowExtend
  | .floorAdvance => takeFloorAdvance
  | .keyQuery => takeKeyQuery
  | .keyRevoke => takeKeyRevoke
  | .keyEnroll => takeKeyEnroll
  | .policySet => takePolicySet
  | .policyGet => takePolicyGet
  | .provisionClose => takeProvisionClose
  | .faultRead => takeFaultRead
  | .restart => takeRestart

/-- The reply frame that answers a request frame (R168). -/
def replyTo (f : Frame) (a : Answer) : Reply :=
  { kind := f.kind + 0x80, tag := f.tag, status := a.status, payload := a.payload }

/-- An ordinary reply becomes ready in the link's ordinary entry (R171). -/
def State.putReply (s : State) (l : Link) (r : Reply) : State :=
  s.onLink l fun x => { x with ordinary := some r }

/-- A served request's effect, with its ordinary reply if it has one. -/
def State.answer (l : Link) (f : Frame) (served : Served) : State :=
  match served.2 with
  | some a => served.1.putReply l (replyTo f a)
  | none => served.1

/-- Frame check 1 fails: BAD_CRC with an empty payload, and LINK_ERROR on that link (R170). -/
def State.badCrc (s : State) (l : Link) (f : Frame) : State :=
  (s.linkError l).putReply l (replyTo f ⟨.badCrc, []⟩)

/-- A request of a known kind is taken: the CRC and size checks, then its handler (R170). -/
def takeRequest (k : Kind) (h : Handler) (l : Link) (f : Frame) (s : State) : State :=
  if frameCrc f ≠ f.crc then s.badCrc l f
  else if !payloadSizeOk k f.payload.length then
    State.answer l f (refuse k s .badLength)
  else State.answer l f (h l f s)

/-- A frame of any kind is taken (R170). -/
def takeFrame (l : Link) (f : Frame) (s : State) : State :=
  match kindOf f.kind with
  | some k => takeRequest k (handlerOf k) l f s
  | none =>
    if frameCrc f ≠ f.crc then s.badCrc l f
    else State.answer l f (serve s .badKind [])

/-! ### Arrival of a frame (R171, R174, R176 to R178) -/

/-- The receive assembly of a link returns to HUNTING. -/
def State.hunt (s : State) (l : Link) : State := s.onLink l fun x => { x with rx := .hunting }

/-- A frame is abandoned: LINK_ERROR on its link, and the assembly HUNTING (R174, R177). -/
def State.abandon (s : State) (l : Link) : State := (s.hunt l).linkError l

/-- An entry of the reply queue empties; the other entry's reply, if ready, is next (R171). -/
def LinkState.emptyOrdinary (x : LinkState) : LinkState :=
  { x with ordinary := none, sending := if x.waitReply.isSome then some .wait else none }

def LinkState.emptyWait (x : LinkState) : LinkState :=
  { x with waitReply := none, sending := if x.ordinary.isSome then some .ordinary else none }

/-- The unread ordinary reply of Link M is removed unsent, with LINK_ERROR (R176). If it answered a
RESTART, the warm reset is taken in the same event (R152). -/
def State.removeUnread (s : State) : State :=
  let t := (s.onLink .m LinkState.emptyOrdinary).linkError .m
  if s.restartPending then t.warmReset .restart else t

/-- A window is past when no frame or reply can end in it any more: it is shut, or what it carried has
ended. -/
def SpiWindow.past : SpiWindow → Bool
  | .shut => true
  | .begun _ => false
  | .request => false
  | .spent => true

/-- A frame is being assembled in the window of Link M. Until it ends, no other window can have begun, and no
reply is read (R174). -/
def State.assembling (s : State) : Bool := s.spi == .request && !s.windowIgnored

/-- CS_N falls: a window begins, in which the oldest ready reply is offered; of a held part it is ignored
(R173). -/
def State.windowFalls (s : State) : State :=
  { s with spi := .begun s.linkM.sending, windowIgnored := s.deaf }

/-- CS_N rises: the window ends (R173). -/
def State.windowRises (s : State) : State := { s with spi := .shut, windowIgnored := false }

/-- What a frame or a reply that ends on a link leaves of the window: on Link M nothing more comes of it,
and it was not ignored. -/
def State.spendWindow (s : State) (l : Link) : State :=
  match l with
  | .m => { s with spi := .spent, windowIgnored := false }
  | .e => s

/-- The window in which a Link M frame ends: the one that is open, or, where that is past, one that has
begun since (assumption 26). -/
def State.frameWindow (s : State) : State := if s.spi.past then s.windowFalls else s

/-- A frame that ends on Link M now is lost with a window that is ignored (R173). -/
def State.windowLost (s : State) : Bool := s.windowIgnored && !s.spi.past

/-- The SYNC of a request window is complete: the assembly becomes ASSEMBLING with that byte (R174), and an
ordinary reply that is unread is removed (R176). A reset taken then finds the window open, and the rest of
it is ignored (R173). -/
def State.sync (s : State) : State :=
  let t := ({ s with spi := .request } : State).onLink .m fun x => { x with rx := .assembling [0xA5] }
  if s.linkM.ordinary.isSome then t.removeUnread else t

/-- REPLY_REMOVED_UNREAD: the SYNC of a Link M request window, which has begun before or begins now. Of an
ignored window, and of a held part, no byte is taken (R151, R173). -/
def State.windowBegins (s : State) : State :=
  if s.assembling then s
  else
    let t := match s.spi with
      | .begun _ => s
      | _ => s.windowFalls
    if t.windowIgnored || t.deaf then { t with spi := .request, windowIgnored := true } else t.sync

/-- The SYNC of a Link M frame that finds a reply unread is an event of its own before the frame's: the
reply is removed, and a WAIT that names LINK_ERROR is answered (R166, R176). -/
def State.windowSync (s : State) : State :=
  if s.linkM.ordinary.isSome then s.sync.commit else s

/-- The end of the frame in a request window of Link M, whole or abandoned. Of an ignored window nothing is
taken (R173), nor by a held part (R149, R151, R172). Otherwise its SYNC comes first, and with a RESTART
pending the frame is lost (R152). Nothing more comes of the window. -/
def State.inWindow (s : State) (rest : State → State) : State :=
  let w := s.frameWindow
  if w.windowIgnored || w.deaf then { w with spi := .spent }
  else
    let t := w.windowSync
    if t.windowIgnored then { t with spi := .spent }
    else
      let u := (t.hunt .m).spendWindow .m
      if t.restartPending then u else rest u

/-- A complete frame on Link M: abandoned if its LEN was out of range (R174), else taken. -/
def State.arriveM (s : State) (take : State → State) (f : Frame) : State :=
  s.inWindow fun t => if lenOk (frameLen f) then take t else t.abandon .m

/-- A complete frame of Link E that cannot be taken at once: held, or discarded with LINK_ERROR
when two are held (R178). -/
def State.holdFrame (s : State) (f : Frame) : State :=
  if s.linkE.held.length < 2 then s.onLink .e fun x => { x with held := x.held ++ [f] }
  else s.linkError .e

/-- A frame of Link E can be taken at once: its ordinary entry is empty, no frame is held and no
RESTART is pending (R152, R178). -/
def State.freeE (s : State) : Bool :=
  s.linkE.ordinary.isNone && s.linkE.held.isEmpty && !s.restartPending

/-- A complete frame on Link E: abandoned if its LEN was out of range (R177), else taken or held
(R178). A held part takes no byte (R149, R151, R172). -/
def State.arriveE (s : State) (take : State → State) (f : Frame) : State :=
  if s.deaf then s
  else if lenOk (frameLen f) then
    if s.freeE then take (s.hunt .e) else (s.hunt .e).holdFrame f
  else s.abandon .e

/-- A complete frame arrives on a link. -/
def State.arrive (s : State) (l : Link) (take : State → State) (f : Frame) : State :=
  match l with
  | .m => s.arriveM take f
  | .e => s.arriveE take f

/-- A request command: a complete frame of a known kind arrives, and the event closes. -/
def State.request (s : State) (k : Kind) (h : Handler) (l : Link) (q : Request) : State :=
  (s.arrive l (takeRequest k h l (requestFrame k q)) (requestFrame k q)).commit

/-! ### Replies that leave (R171, R175, R176, R179) -/

/-- Held frames of Link E are taken one at a time, oldest first, while the ordinary entry is empty
(R171). The first is taken in the event that emptied the entry. If it was a WAIT that left the entry
empty, the next is taken in an event of its own that follows: DESIGN CHOICE, assumption 25. The first
argument bounds how many. -/
def drainHeld : Nat → State → State
  | 0, s => s
  | n + 1, s =>
    if s.linkE.ordinary.isSome || s.restartPending then s
    else match s.linkE.held with
    | [] => s
    | f :: rest =>
      drainHeld n (takeFrame .e f (s.onLink .e fun x => { x with held := rest })).commit

/-- The ordinary reply of a link has left (R171): on Link M a pending RESTART takes its warm reset
(R152); on Link E held frames are taken. -/
def State.ordinaryLeft (s : State) (l : Link) : State :=
  let t := s.onLink l LinkState.emptyOrdinary
  match l with
  | .m => if s.restartPending then t.warmReset .restart else t
  | .e => drainHeld t.linkE.held.length t

/-- REPLY_LEFT: the last byte of the reply being sent leaves the part (R179). On Link M it was read in a
window, which carries 0x00 from then on (R175): the open one where that offers the reply, and where it does
not, having begun with no reply ready, being ignored, past or shut, in a later one whose edges of CS_N the row
implies. DESIGN CHOICE, assumption 26. -/
def State.replyLeaves (s : State) (l : Link) : State :=
  if s.deaf || (l == .m && s.assembling) then s
  else match (s.link l).sending with
  | none => s
  | some .ordinary => (s.spendWindow l).ordinaryLeft l
  | some .wait => (s.spendWindow l).onLink l LinkState.emptyWait

/-! ### Frames that go wrong (R174, R177) -/

/-- Whether a cause can abandon a frame of a link: a stop bit is Link E's, a window Link M's, and a
LEN must lie out of range. -/
def abandons (l : Link) : AbandonCause → Bool
  | .lenOutOfRange len => !lenOk len.toNat
  | .stopBitLow => l == .e
  | .windowEnded => l == .m

/-- The receive assembly of a link is ASSEMBLING a frame (Table 11-2). -/
def LinkState.inFrame (x : LinkState) : Bool := x.rx != .hunting

/-- A frame is being assembled on Link E, which is not held: a gap, a stop bit or a LEN may abandon it
(R149, R151, R177). -/
def State.assemblingE (s : State) : Bool := s.linkE.inFrame && !s.deaf

/-- A byte whose stop bit reads high arrives at a receive assembly. While HUNTING a byte of 0xA5 begins a
frame, and any other is discarded (R177). The bytes that follow a SYNC come with the row that ends the frame:
assumption 12. -/
def LinkState.hear (x : LinkState) (b : Byte) : LinkState :=
  if !x.inFrame && b == 0xA5 then { x with rx := .assembling [b] } else x

/-- A byte arrives on Link E. A held part takes none (R149, R151). -/
def State.hearE (s : State) (b : Byte) : State :=
  if s.deaf then s else s.onLink .e fun x => x.hear b

/-- FRAME_ABANDONED: on Link E the frame is being assembled (R177); on Link M it stands in a request window,
whose end may be the cause. -/
def State.frameAbandoned (s : State) (l : Link) (cause : AbandonCause) : State :=
  if !abandons l cause then s
  else match l with
  | .e => if s.assemblingE then s.abandon .e else s
  | .m =>
    let t := s.inWindow fun t => t.abandon .m
    if cause = .windowEnded then t.windowRises else t

/-- CS_N changes its level: a window begins or ends (R173). The end of a window that cuts a frame off is
FRAME_ABANDONED's, so while a frame is being assembled the level stays. -/
def State.chipSelect (s : State) : State :=
  if s.assembling then s else if s.spi = .shut then s.windowFalls else s.windowRises

/-- RXD brings a byte outside a frame or none, as a free value says. DESIGN CHOICE, assumption 28. -/
def State.receive (s : State) : State :=
  match Config.linkEByte s.freeCount with
  | some b => s.hearE b
  | none => s

/-- The block on an empty queue: a byte arrives on Link E or not, and CS_N changes its level or not, as free
values say. DESIGN CHOICE, assumptions 7, 27 and 28. -/
def State.idle (s : State) : State :=
  let t : State := { s.receive with freeCount := s.freeCount + 1 }
  (if Config.chipSelectMoves s.freeCount then t.chipSelect else t).drive

/-- FRAME_GAP_TIMEOUT: more than 2 ms between two bytes of the Link E frame being assembled (R177). -/
def State.gapTimeout (s : State) : State := if s.assemblingE then s.abandon .e else s

/-- STOP_BIT_LOW_WHILE_HUNTING: the byte is discarded and LINK_ERROR set (R177). Within a frame a stop bit
that reads low abandons it, which is FRAME_ABANDONED's. -/
def State.stopBitLow (s : State) : State :=
  if s.deaf || s.linkE.inFrame then s else s.linkError .e

end Sys2Proof.Machine
end

