-- ==== Sys2Proof/Machine/Events.lean ====
section
/-! DEFINITION. The meanings of the event commands. An event whose premise does not hold leaves the
part as it is (assumption 6). -/

namespace Sys2Proof.Machine

/-- CHUNK_DIGESTED (R40). -/
def execChunkDigested (s : State) : Result := .next s.finishChunk.commit

/-- MANIFEST_JOB_END (R64). -/
def execManifestJobEnd (s : State) : Result := .next s.endManifestJob.commit

/-- REVOKE_JOB_END (R68, R69). -/
def execRevokeJobEnd (s : State) : Result := .next s.endRevokeJob.commit

/-- FUSE_BURN_COMPLETE (R92). -/
def execFuseBurnComplete (took : Bool) (strays : List Nat) (s : State) : Result := .next (s.finishBurn took strays).commit

/-- SELFTEST_COMPLETE (R139 to R142). -/
def execSelftestComplete (s : State) : Result := .next s.endSelfTest.commit

/-- BOOT_WINDOW_TICK (R129). -/
def execBootWindowTick (s : State) : Result := .next s.tick.commit

/-- BOOT_WINDOW_EXPIRY (R134). -/
def execBootWindowExpiry (s : State) : Result := .next s.expiryTick.commit

/-- COLD_RESET (R149). -/
def execColdReset (cause : ColdCause) (s : State) : Result := .next (s.coldReset cause).commit

/-- RESET_N_FALL (R151). -/
def execResetNFall (s : State) : Result := .next s.resetFalls.commit

/-- RESET_N_RISE (R151). -/
def execResetNRise (s : State) : Result := .next s.resetRises.commit

/-- FRAME_HELD (R178). -/
def execFrameHeld (f : Frame) (s : State) : Result := .next (s.arrive .e (takeFrame .e f) f).commit

/-- FRAME_ABANDONED (R174, R177). -/
def execFrameAbandoned (l : Link) (cause : AbandonCause) (s : State) : Result := .next (s.frameAbandoned l cause).commit

/-- FRAME_GAP_TIMEOUT (R177). -/
def execFrameGapTimeout (s : State) : Result := .next s.gapTimeout.commit

/-- REPLY_LEFT (R175, R179). -/
def execReplyLeft (l : Link) (s : State) : Result := .next (s.replyLeaves l).commit

/-- REPLY_REMOVED_UNREAD (R176). -/
def execReplyRemovedUnread (s : State) : Result := .next s.windowBegins.commit

/-- SUPPLY_RECOVERED (R149). -/
def execSupplyRecovered (s : State) : Result := .next s.supplyRecovers.commit

/-- STOP_BIT_LOW_WHILE_HUNTING (R177). -/
def execStopBitLowWhileHunting (s : State) : Result := .next s.stopBitLow.commit

/-- BAD_KIND_FRAME (R170). -/
def execBadKindFrame (l : Link) (f : Frame) (s : State) : Result := .next (s.arrive l (takeFrame l f) f).commit

/-- BOOT_CLOCK_MICROSECOND (R155). -/
def execBootClockMicrosecond (s : State) : Result := .next s.clockRises.commit

end Sys2Proof.Machine
end

