-- ==== Sys2Proof/Machine/Requests.lean ====
section
/-! DEFINITION. The meanings of the request commands: a complete frame of the kind arrives on a link,
is taken, held or lost as the link's rules give, and the event closes. -/

namespace Sys2Proof.Machine

/-- IDENTIFY (R181). -/
def execIdentify (l : Link) (q : Request) (s : State) : Result :=
  .next (s.request .identify takeIdentify l q)

/-- STATUS (R182). -/
def execStatus (l : Link) (q : Request) (s : State) : Result :=
  .next (s.request .status takeStatus l q)

/-- EVENT_MASK (R163). -/
def execEventMask (l : Link) (q : Request) (s : State) : Result :=
  .next (s.request .eventMask takeEventMask l q)

/-- EVENT_CLEAR (R162). -/
def execEventClear (l : Link) (q : Request) (s : State) : Result :=
  .next (s.request .eventClear takeEventClear l q)

/-- WAIT (R165). -/
def execWait (l : Link) (q : Request) (s : State) : Result :=
  .next (s.request .wait takeWait l q)

/-- SLOT_OPEN (R6, R108). -/
def execSlotOpen (l : Link) (q : Request) (s : State) : Result :=
  .next (s.request .slotOpen takeSlotOpen l q)

/-- MAN_DATA (R7). -/
def execManData (l : Link) (q : Request) (s : State) : Result :=
  .next (s.request .manData takeManData l q)

/-- MAN_CLOSE (R9). -/
def execManClose (l : Link) (q : Request) (s : State) : Result :=
  .next (s.request .manClose takeManClose l q)

/-- SEG_OPEN (R41 to R43). -/
def execSegOpen (l : Link) (q : Request) (s : State) : Result :=
  .next (s.request .segOpen takeSegOpen l q)

/-- SEG_DATA (R44 to R47). -/
def execSegData (l : Link) (q : Request) (s : State) : Result :=
  .next (s.request .segData takeSegData l q)

/-- SEG_CLOSE (R48). -/
def execSegClose (l : Link) (q : Request) (s : State) : Result :=
  .next (s.request .segClose takeSegClose l q)

/-- SLOT_QUERY (R24). -/
def execSlotQuery (l : Link) (q : Request) (s : State) : Result :=
  .next (s.request .slotQuery takeSlotQuery l q)

/-- SLOT_DROP (R23). -/
def execSlotDrop (l : Link) (q : Request) (s : State) : Result :=
  .next (s.request .slotDrop takeSlotDrop l q)

/-- CLASS_DECLINE (R113, R114). -/
def execClassDecline (l : Link) (q : Request) (s : State) : Result :=
  .next (s.request .classDecline takeClassDecline l q)

/-- WINDOW_EXTEND (R131, R132). -/
def execWindowExtend (l : Link) (q : Request) (s : State) : Result :=
  .next (s.request .windowExtend takeWindowExtend l q)

/-- FLOOR_ADVANCE (R96, R97). -/
def execFloorAdvance (l : Link) (q : Request) (s : State) : Result :=
  .next (s.request .floorAdvance takeFloorAdvance l q)

/-- KEY_QUERY (R77). -/
def execKeyQuery (l : Link) (q : Request) (s : State) : Result :=
  .next (s.request .keyQuery takeKeyQuery l q)

/-- KEY_REVOKE (R78, R79). -/
def execKeyRevoke (l : Link) (q : Request) (s : State) : Result :=
  .next (s.request .keyRevoke takeKeyRevoke l q)

/-- KEY_ENROLL (R84, R85). -/
def execKeyEnroll (l : Link) (q : Request) (s : State) : Result :=
  .next (s.request .keyEnroll takeKeyEnroll l q)

/-- POLICY_SET (R145). -/
def execPolicySet (l : Link) (q : Request) (s : State) : Result :=
  .next (s.request .policySet takePolicySet l q)

/-- POLICY_GET (R146). -/
def execPolicyGet (l : Link) (q : Request) (s : State) : Result :=
  .next (s.request .policyGet takePolicyGet l q)

/-- PROVISION_CLOSE (R147, R148). -/
def execProvisionClose (l : Link) (q : Request) (s : State) : Result :=
  .next (s.request .provisionClose takeProvisionClose l q)

/-- FAULT_READ (R160). -/
def execFaultRead (l : Link) (q : Request) (s : State) : Result :=
  .next (s.request .faultRead takeFaultRead l q)

/-- RESTART (R152). -/
def execRestart (l : Link) (q : Request) (s : State) : Result :=
  .next (s.request .restart takeRestart l q)

end Sys2Proof.Machine
end

