-- ==== Sys2Proof/Machine/Dispatch.lean ====
section
/-! DEFINITION. One arm per command: each calls the command's meaning. -/

namespace Sys2Proof.Machine

def exec (i : Instr) (s : State) : Host.Outcome State Fault Refusal :=
  match i with
  | .identify l q => Sys2Proof.Machine.execIdentify l q s
  | .status l q => Sys2Proof.Machine.execStatus l q s
  | .eventMask l q => Sys2Proof.Machine.execEventMask l q s
  | .eventClear l q => Sys2Proof.Machine.execEventClear l q s
  | .wait l q => Sys2Proof.Machine.execWait l q s
  | .slotOpen l q => Sys2Proof.Machine.execSlotOpen l q s
  | .manData l q => Sys2Proof.Machine.execManData l q s
  | .manClose l q => Sys2Proof.Machine.execManClose l q s
  | .segOpen l q => Sys2Proof.Machine.execSegOpen l q s
  | .segData l q => Sys2Proof.Machine.execSegData l q s
  | .segClose l q => Sys2Proof.Machine.execSegClose l q s
  | .slotQuery l q => Sys2Proof.Machine.execSlotQuery l q s
  | .slotDrop l q => Sys2Proof.Machine.execSlotDrop l q s
  | .classDecline l q => Sys2Proof.Machine.execClassDecline l q s
  | .windowExtend l q => Sys2Proof.Machine.execWindowExtend l q s
  | .floorAdvance l q => Sys2Proof.Machine.execFloorAdvance l q s
  | .keyQuery l q => Sys2Proof.Machine.execKeyQuery l q s
  | .keyRevoke l q => Sys2Proof.Machine.execKeyRevoke l q s
  | .keyEnroll l q => Sys2Proof.Machine.execKeyEnroll l q s
  | .policySet l q => Sys2Proof.Machine.execPolicySet l q s
  | .policyGet l q => Sys2Proof.Machine.execPolicyGet l q s
  | .provisionClose l q => Sys2Proof.Machine.execProvisionClose l q s
  | .faultRead l q => Sys2Proof.Machine.execFaultRead l q s
  | .restart l q => Sys2Proof.Machine.execRestart l q s
  | .chunkDigested => Sys2Proof.Machine.execChunkDigested s
  | .manifestJobEnd => Sys2Proof.Machine.execManifestJobEnd s
  | .revokeJobEnd => Sys2Proof.Machine.execRevokeJobEnd s
  | .fuseBurnComplete took strays => Sys2Proof.Machine.execFuseBurnComplete took strays s
  | .selftestComplete => Sys2Proof.Machine.execSelftestComplete s
  | .bootWindowTick => Sys2Proof.Machine.execBootWindowTick s
  | .bootWindowExpiry => Sys2Proof.Machine.execBootWindowExpiry s
  | .coldReset cause => Sys2Proof.Machine.execColdReset cause s
  | .resetNFall => Sys2Proof.Machine.execResetNFall s
  | .resetNRise => Sys2Proof.Machine.execResetNRise s
  | .frameHeld f => Sys2Proof.Machine.execFrameHeld f s
  | .frameAbandoned l cause => Sys2Proof.Machine.execFrameAbandoned l cause s
  | .frameGapTimeout => Sys2Proof.Machine.execFrameGapTimeout s
  | .replyLeft l => Sys2Proof.Machine.execReplyLeft l s
  | .replyRemovedUnread => Sys2Proof.Machine.execReplyRemovedUnread s
  | .supplyRecovered => Sys2Proof.Machine.execSupplyRecovered s
  | .stopBitLowWhileHunting => Sys2Proof.Machine.execStopBitLowWhileHunting s
  | .badKindFrame l f => Sys2Proof.Machine.execBadKindFrame l f s
  | .bootClockMicrosecond => Sys2Proof.Machine.execBootClockMicrosecond s

end Sys2Proof.Machine
end

