-- ==== Sys2Proof/Safety.lean ====
section
/-! DEFINITION. What claims speak of: the part at rest between two events, a link ready for a
request, the state that a reply alone leaves, and the invariants of the part. -/

namespace Sys2Proof.Machine

/-! ### Between two events -/

/-- A link between two events: no flag that its parked WAIT names is set (R165, R166), and a reply
that is ready is being sent or offered (R171, R175, R179). -/
structure LinkState.AtRest (x : LinkState) : Prop where
  parked  : ∀ w, x.parked = some w → x.flags &&& w.mask = 0
  sending : match x.sending with
    | none => x.ordinary = none ∧ x.waitReply = none
    | some .ordinary => x.ordinary ≠ none
    | some .wait => x.waitReply ≠ none

/-- The part between two events: both links are, and the pins show what drives them. -/
structure State.AtRest (s : State) : Prop where
  linkM : s.linkM.AtRest
  linkE : s.linkE.AtRest
  pins  : s.pins = s.drivenPins

/-- A link takes a frame that completes now: the part is not held, no RESTART is pending, the
ordinary reply entry is empty, no frame is held and, on Link M, the frame is not lost with a window that is
ignored (R151, R152, R171, R173, R178). -/
structure State.Ready (s : State) (l : Link) : Prop where
  heard   : s.deaf = false
  window  : l = .m → s.windowLost = false
  restart : s.restartPending = false
  entry   : (s.link l).ordinary = none
  held    : (s.link l).held = []

/-! ### Replies -/

/-- The reply to a request of a kind (R168). -/
def replyOf (k : Kind) (tag : Byte) (status : Status) (payload : List Byte) : Reply :=
  { kind := kindCode k + 0x80, tag := tag, status := status, payload := payload }

/-- A link in whose ordinary entry a reply has become ready; it goes next if none was being sent. -/
def LinkState.replied (x : LinkState) (r : Reply) : LinkState :=
  { x with rx := .hunting, ordinary := some r,
           sending := if x.sending = none then some .ordinary else x.sending }

/-- A state that an ordinary reply on one link has changed, and nothing else; of a Link M window nothing more
comes, and the pins follow, TXD as the reply is sent and SDO as it carries 0x00. -/
def State.replied (s : State) (l : Link) (r : Reply) : State :=
  ((s.spendWindow l).onLink l fun x => x.replied r).drive

/-! ### Events that post flags -/

/-- A link with flags set, as the event that sets them leaves it. -/
def LinkState.flagged (x : LinkState) (bits : Half) : LinkState :=
  ({ x with flags := x.flags ||| bits } : LinkState).close

/-- Both links with flags set, and the pins following (R161, R164, R166). -/
def State.flagged (s : State) (bits : Half) : State :=
  ({ s with linkM := s.linkM.flagged bits, linkE := s.linkE.flagged bits } : State).drive

/-- A request taken on a link and its ordinary reply ready, before its event closes; of a Link M window
nothing more comes (R171, R174). -/
def State.replying (s : State) (l : Link) (r : Reply) : State :=
  (s.spendWindow l).onLink l fun x => { x with rx := .hunting, ordinary := some r }

/-- A reply ready on one link, together with flags set on both (R161, R171). -/
def State.answered (s : State) (l : Link) (r : Reply) (bits : Half) : State :=
  (s.replying l r).flagged bits

/-! ### Resets -/

/-- What a reset makes of the fuses and of the count of free values: a burn that it interrupts leaves the
fuse under burn set or not (R95). -/
def State.BurnStops (s : State) (fuses : Fuses) (count : Nat) : Prop :=
  (s.fuseOp = none → fuses = s.fuses ∧ count = s.freeCount) ∧
  ∀ op, s.fuseOp = some op →
    fuses = s.fuses ∨ fuses = burnFuse s.fuses op.kind (op.burnList.getD op.position 0)

/-- The whole state after the warm reset that a RESTART brings in a window of Link M: the cold values, the
boot clock and the fault records kept, the cause noted, and the failed-attempt count raised, to at most 255,
unless the verdict was PRINT_READY (R150, R153, R154, Table 9-4); the rest of the window is ignored (R173). -/
def State.restarted (s : State) (spi : SpiWindow) (fuses : Fuses) (count : Nat) : State :=
  { State.reset with
    fuses := fuses, rom := s.rom, freeCount := count, pending := s.pending
    spi := spi, windowIgnored := true, bootClock := s.bootClock, faults := s.faults
    cause := { last := .restart, flags := s.cause.flags ||| 4 }
    failedCount := if s.verdict = .printReady then s.failedCount else min 255 (s.failedCount + 1) }

/-! ### What a change of class states brings -/

/-- After an event that changed class states: every HELD line is evaluated against the classes as they
now stand, and a RELEASED, LOCKED or DISABLED line keeps its state (R118). While a line is HELD, or out
of VERIFY, the part goes on as it was; in VERIFY, when none is, it enters SETTLED: the verdict is
taken, the timer stops, PRINT_READY clears the failed-attempt count and SETTLED is posted (R120,
R121). -/
structure State.LinesFollow (s t : State) : Prop where
  lines : ∀ i : Fin 6, t.lines[i] =
    if s.lines[i].state = .held then
      { s.lines[i] with state := evaluateLine t.classes s.lines[i] }
    else s.lines[i]
  posts : t.lines ≠ s.lines → ∀ k : Link, (t.link k).flags.getLsbD 2 = true
  stays : (s.mode ≠ .verify ∨ ∃ i : Fin 6, t.lines[i].state = .held) →
    t.mode = s.mode ∧ t.verdict = s.verdict ∧ t.window = s.window ∧ t.failedCount = s.failedCount
  settles : s.mode = .verify → (∀ i : Fin 6, t.lines[i].state ≠ .held) →
    t.mode = .settled ∧
    t.verdict = (if t.lines[0].state = .released then
        (if ∃ i : Fin 6, t.lines[i].state = .locked then .degraded else .printReady)
      else .blocked) ∧
    t.window = { s.window with running := false, toTick := none } ∧
    t.failedCount = (if t.verdict = .printReady then 0 else s.failedCount) ∧
    ∀ k : Link, (t.link k).flags.getLsbD 3 = true

/-- A slot as a rejection order leaves it (R16, R18). -/
def Slot.rejectedFor (x : Slot) (reason : FaultCode) : Slot :=
  { x with state := .rejected, reason := some reason, openCtxs := [] }

/-- A slot after an event that gave an order for the live slots of a class and may have settled the
part: a live slot of the class is rejected with the order's reason, any other live slot SETTLED_OUT
where the part has settled, and the rest are as they were (R17, R121). -/
def State.SlotFollows (s t : State) (c : Fin 8) (reason : FaultCode) (j : Fin 12) : Prop :=
  t.slots[j] =
    if s.slots[j].live = false then s.slots[j]
    else if s.slots[j].cls = some c then s.slots[j].rejectedFor reason
    else if s.mode = .verify ∧ t.mode = .settled then s.slots[j].rejectedFor .settledOut
    else s.slots[j]

/-- After an event in which a slot of a class entered VERIFIED, its record otherwise being `x`: the class
is VERIFIED with it, the class's other live slots are rejected CLASS_DONE_LATE, the lines follow, and
SLOT_DONE and CLASS_CHANGE are set on both links (R19, R110). -/
structure State.SlotWins (s t : State) (i : Fin 12) (x : Slot) (c : Fin 8) : Prop where
  slot    : t.slots[i] = { x with state := .verified, sig := .passed }
  classes : t.classes =
    put s.classes c { s.classes[c] with state := .verified, verifiedSlot := some i }
  others  : ∀ j : Fin 12, j ≠ i → s.SlotFollows t c .classDoneLate j
  lines   : s.LinesFollow t
  posts   : ∀ k : Link, (t.link k).flags.getLsbD 0 = true ∧ (t.link k).flags.getLsbD 1 = true

/-! ### What rejections bring -/

/-- A slot was rejected between the two states of an event. -/
def State.gone (s t : State) (i : Fin 12) : Bool := s.slots[i].live && t.slots[i].state == .rejected

/-- The digest contexts once the work of the slots rejected in an event is released: theirs are IDLE
(R18, R53). -/
def State.ctxsLeft (s t : State) : Vector (Option Claim) 4 :=
  tabulate fun x =>
    match s.ctxs[x] with
    | some claim => if s.gone t claim.slot then none else some claim
    | none => none

/-- The chunk queue then: their chunks have left it (R54). -/
def State.chunksLeft (s t : State) : List Chunk :=
  s.chunkQueue.filter fun ch => !(s.gone t ch.slot && ch.gen == s.slots[ch.slot].gen)

/-- The waiting jobs then: their manifest jobs have left the list, and revoke jobs stay (R65). -/
def State.jobsLeft (s t : State) : List Job :=
  s.jobs.filter fun j =>
    match j with
    | .manifest i gen => !(s.gone t i && gen == s.slots[i].gen)
    | .revoke .. => true

/-- Fault records once an order, its reason and key given, has stored a record for each slot that an
event rejected for that reason, in ascending slot index (R17, R159). -/
def State.recorded (s t : State) (faults : Vector FaultRecord 4)
    (order : FaultCode × Option (Fin 10)) : Vector FaultRecord 4 :=
  ((List.finRange 12).filter fun i =>
    s.gone t i && t.slots[i].reason == some order.1).foldl
    (fun v i => storeFault v
      { stamp := s.bootClock, code := order.1, link := s.slots[i].owner, slot := some i,
        cls := s.slots[i].cls, seg := none, key := order.2, detail := List.replicate 8 0 })
    faults

/-- The flags that an event sets on both links (R161, Table 10-3): those of its own, SLOT_DONE and FAULT for
any slot rejected (R16), CLASS_CHANGE and LINE_CHANGE where a class or a line changed (R106, R118), and
SETTLED where the mode did (R121). It sets no other. -/
def State.posted (s t : State) (own : Half) : Half :=
  own ||| (if ∃ i, s.gone t i = true then 0x081 else 0) |||
    (if t.classes = s.classes then 0 else 0x002) ||| (if t.lines = s.lines then 0 else 0x004) |||
    (if t.mode = s.mode then 0 else 0x008)

/-- What the rejections of an event bring beside the slots: the work of rejected slots is released, the
orders store their faults one after another, the links are as they were but for the flags that the event
posts and for the WAITs that these answer, and what no rejection and no change of class states reaches is as
it was. -/
structure State.OrdersFollow (s t : State) (own : Half) (orders : List (FaultCode × Option (Fin 10))) :
    Prop where
  ctxs   : t.ctxs = s.ctxsLeft t
  jobs   : t.jobs = s.jobsLeft t
  faults : t.faults = orders.foldl (s.recorded t) s.faults
  posts  : (∃ i, s.gone t i = true) → ∀ k : Link,
    (t.link k).flags.getLsbD 0 = true ∧ (t.link k).flags.getLsbD 7 = true
  links  : t.linkM = s.linkM.flagged (s.posted t own) ∧ t.linkE = s.linkE.flagged (s.posted t own)
  units  : t.fuses = s.fuses ∧ t.fuseOp = s.fuseOp ∧ t.reserved = s.reserved ∧
    t.revoking = s.revoking ∧ t.active = s.active
  rest   : t.cause = s.cause ∧ t.bootClock = s.bootClock ∧ t.staging = s.staging ∧
    t.inForce = s.inForce ∧ t.restartPending = s.restartPending ∧ t.selfTest = s.selfTest ∧
    t.rom = s.rom ∧ t.resetNLow = s.resetNLow ∧ t.supplyLow = s.supplyLow ∧
    t.spi = s.spi ∧ t.windowIgnored = s.windowIgnored ∧ t.freeCount = s.freeCount ∧
    t.pending = s.pending

/-- A class is exhausted by the rejection of some slots: it is PENDING with three attempts, one of them is
its own, and no other slot of it is live (R111, R112). -/
def State.Exhausts (s : State) (named : Fin 12 → Prop) (c : Fin 8) : Prop :=
  s.classes[c].state = .pending ∧ s.classes[c].attempts = 3 ∧
  (∃ j : Fin 12, named j ∧ s.slots[j].cls = some c) ∧
  ∀ j : Fin 12, s.slots[j].live = true → s.slots[j].cls = some c → named j

/-- The class record that exhaustion leaves: DECLINED if OPTIONAL, FAILED if not (R111). -/
def ClassRec.Closed (x y : ClassRec) : Prop :=
  y = { x with state := if x.disposition = .optional then .declined else .failed }

/-- After an event that rejected the live slots `named`, each for its reason, and no other but by settling:
exhausted classes are closed, all other classes as they were, CLASS_CHANGE is set and the lines follow where a
class was closed or the event had won one before, and where neither is so, lines, mode, verdict, timer and
failed-attempt count are as they were. -/
structure State.RejectsFor (s t : State) (named : Fin 12 → Prop) (reason : Fin 12 → FaultCode)
    (won : Prop) : Prop where
  slots : ∀ j : Fin 12,
    (named j → t.slots[j] = s.slots[j].rejectedFor (reason j)) ∧
    (¬named j → t.slots[j] =
      if s.slots[j].live = true ∧ s.mode = .verify ∧ t.mode = .settled then
        s.slots[j].rejectedFor .settledOut
      else s.slots[j])
  classes : ∀ c : Fin 8,
    (s.Exhausts named c → s.classes[c].Closed t.classes[c]) ∧
    (¬s.Exhausts named c → t.classes[c] = s.classes[c])
  closes : (won ∨ ∃ c, s.Exhausts named c) →
    s.LinesFollow t ∧ ∀ k : Link, (t.link k).flags.getLsbD 1 = true
  stays : ¬won → (∀ c, ¬s.Exhausts named c) →
    t.lines = s.lines ∧ t.mode = s.mode ∧ t.verdict = s.verdict ∧ t.window = s.window ∧
    t.failedCount = s.failedCount

/-- After an event that rejected the live slots `named` for one reason, and won no class. -/
def State.RejectsAll (s t : State) (named : Fin 12 → Prop) (reason : FaultCode) : Prop :=
  s.RejectsFor t named (fun _ => reason) False

/-! ### Units -/

/-- The job that an idle signature unit starts from the waiting list, with its inputs, and the list it
leaves (R60, R63, R67): none where no job waits, else the oldest, which is no manifest job of a REVOKED
key. -/
def State.StartsNext (s : State) (next : Option ActiveJob) (rest : List Job) : Prop :=
  (s.jobs = [] ∧ next = none ∧ rest = []) ∨
  (∃ (n : Fin 12) (g : Byte) (q : Parsed), s.jobs = .manifest n g :: rest ∧
    s.slots[n].parsed = some q ∧ s.keyState q.key ≠ .revoked ∧
    next = some (.manifest n g (s.slots[n].buffer.take (48 + 32 * q.segCount)) (s.keyBytes q.key)
      (slice s.slots[n].buffer (48 + 32 * q.segCount) 64))) ∨
  (∃ (l : Link) (target : Fin 10) (r : Fin 2) (sig : List Byte),
    s.jobs = .revoke l target r sig :: rest ∧
    next = some (.revoke l target r ([0x52, 0x45, 0x56, 0x4B, byteOf target] ++ s.rom.serial.toList)
      s.rom.roots[r].key.toList sig))

/-- Every waiting manifest job can start: its slot has parsed fields, and their key does not read REVOKED
(R62). -/
def State.JobsCanStart (s : State) : Prop :=
  ∀ n g, Job.manifest n g ∈ s.jobs →
    ∃ q, s.slots[n].parsed = some q ∧ s.keyState q.key ≠ .revoked

/-- Waiting jobs of which the oldest end at their start: the manifest jobs of the `named` slots, whose keys
read REVOKED (R62), and then the `later` ones, the first of which is none of these. Each later manifest job is
that of a live slot in its generation (R65). -/
structure State.EndAtStart (s : State) (jobs : List Job) (named : List (Fin 12)) (later : List Job) :
    Prop where
  order    : jobs = (named.map fun n => .manifest n s.slots[n].gen) ++ later
  distinct : named.Nodup
  revoked  : ∀ n ∈ named, s.slots[n].live = true ∧
    ∃ p, s.slots[n].parsed = some p ∧ s.keyState p.key = .revoked
  live     : ∀ n g, Job.manifest n g ∈ later →
    n ∉ named ∧ s.slots[n].live = true ∧ s.slots[n].gen = g ∧ s.slots[n].parsed ≠ none
  first    : ∀ n g rest p, later = .manifest n g :: rest → s.slots[n].parsed = some p →
    s.keyState p.key ≠ .revoked

/-- After an event that left the signature unit idle: what rejections bring, and the unit starts the oldest
job that they left waiting, if there is one (R60, R65). That SETTLED_OUT is among these rejections, the part
settling before the unit takes its next job, is the model's choice (assumption 23). -/
structure State.UnitGoesOn (s t : State) (own : Half) (orders : List (FaultCode × Option (Fin 10))) :
    Prop where
  orders : s.OrdersFollow { t with active := s.active, jobs := s.jobsLeft t } own orders
  next   : ({ s with jobs := s.jobsLeft t } : State).StartsNext t.active t.jobs

/-- How a row reads after a burn, its fuses numbered from `first`: what read 1 before, fuse `f` if its
burn took, and the stray fuses (R89, R93). -/
def RowAfter {w : Nat} (row after : BitVec w) (first f : Nat) (took : Bool) (strays : List Nat) : Prop :=
  ∀ k : Nat, k < w → after.getLsbD k =
    (row.getLsbD k || (took && decide (k + first = f)) ||
      decide (k + first ∈ strays ∧ k + first ≠ f))

/-- Fuse `k` of a row is read wrong after burn `n` of a list (R86, R102): a fuse burnt so far reads 0,
one outside the list reads 1, or the row's last fuse reads 1 before its own burn. -/
def FuseWrong {w : Nat} (row : BitVec w) (list : List Nat) (n last k : Nat) : Prop :=
  (k ∈ list.take (n + 1) ∧ row.getLsbD k = false) ∨ (k ∉ list ∧ row.getLsbD k = true) ∨
  (n + 1 < list.length ∧ k = last ∧ row.getLsbD k = true)

/-! ### Invariants -/

/-- What a released line stands on: its need classes are VERIFIED and its soft classes VERIFIED or
DECLINED (R118). -/
def LineRec.Stands (classes : Vector ClassRec 8) (x : LineRec) : Prop :=
  ∀ c : Fin 8,
    (x.need.getLsbD c = true → classes[c].state = .verified) ∧
    (x.soft.getLsbD c = true → classes[c].state = .verified ∨ classes[c].state = .declined)

/-- Every RELEASED line stands. -/
def State.LinesStand (s : State) : Prop :=
  ∀ i : Fin 6, s.lines[i].state = .released → s.lines[i].Stands s.classes

/-- The slots as the class table knows them. -/
structure State.TablesSound (s : State) : Prop where
  /-- A slot that is not FREE has a class and an owner link (Table 1-1). -/
  owned : ∀ i : Fin 12, s.slots[i].state ≠ .free →
    s.slots[i].cls.isSome = true ∧ s.slots[i].owner.isSome = true
  /-- The segment map of a parsed slot has one mark for each segment, and the label 28 bytes
  (Table 1-1, Table 1-4). -/
  parsed : ∀ i : Fin 12, ∀ p ∈ s.slots[i].parsed,
    s.slots[i].segMap.length = p.segCount ∧ p.label.length = 28
  /-- A slot is live in VERIFY alone, and its class is PENDING (R110, R122). -/
  live : ∀ i : Fin 12, s.slots[i].live = true →
    s.mode = .verify ∧ ∃ c, s.slots[i].cls = some c ∧ s.classes[c].state = .pending
  /-- A class is VERIFIED exactly when one of its slots is, which is its verified slot (R110). -/
  won : ∀ (c : Fin 8) (i : Fin 12),
    (s.slots[i].state = .verified ∧ s.slots[i].cls = some c) ↔
    (s.classes[c].state = .verified ∧ s.classes[c].verifiedSlot = some i)
  winner : ∀ c : Fin 8, s.classes[c].state = .verified → s.classes[c].verifiedSlot.isSome = true
  /-- Slots have been claimed no more often than attempts were charged (R3, R6). -/
  generations : ((List.finRange 12).map fun i => s.slots[i].gen.toNat).sum ≤
    ((List.finRange 8).map fun c => s.classes[c].attempts).sum

/-- The work of the digest unit, bound to the slots it is done for. -/
structure State.WorkSound (s : State) : Prop where
  /-- Each claimed context belongs to a CHECKING or SIGNED slot that has the claim's generation, for a
  segment that has not matched and that no other context of the slot is claimed for (R37, R42). -/
  claims : ∀ x : Fin 4, ∀ claim ∈ s.ctxs[x],
    (s.slots[claim.slot].state = .checking ∨ s.slots[claim.slot].state = .signed) ∧
    s.slots[claim.slot].gen = claim.gen ∧
    s.slots[claim.slot].segMap.getD claim.seg true = false ∧
    ∀ y : Fin 4, ∀ other ∈ s.ctxs[y], other.slot = claim.slot → other.seg = claim.seg → y = x
  /-- The open-context list of a slot names its contexts, each once (Table 1-1). -/
  openCtxs : ∀ i : Fin 12, s.slots[i].openCtxs.Nodup ∧ ∀ x : Fin 4,
    x ∈ s.slots[i].openCtxs ↔ ∃ claim ∈ s.ctxs[x], claim.slot = i
  /-- Each queued chunk belongs to a claimed context (R38). -/
  queued : ∀ ch ∈ s.chunkQueue, ∃ claim ∈ s.ctxs[ch.ctx],
    claim.slot = ch.slot ∧ claim.gen = ch.gen
  /-- The chunk in the core is no newer than its slot, and while its slot is live in its generation it
  belongs to a claimed context (R39, R40). -/
  coreChunk : ∀ ch ∈ s.core, ch.gen.toNat ≤ s.slots[ch.slot].gen.toNat ∧
    (s.slots[ch.slot].live = true → s.slots[ch.slot].gen = ch.gen →
      ∃ claim ∈ s.ctxs[ch.ctx], claim.slot = ch.slot ∧ claim.gen = ch.gen)
  /-- The pending count of a claim counts its chunks, queued or in the core (Table 3-1). -/
  counted : ∀ x : Fin 4, ∀ claim ∈ s.ctxs[x],
    claim.pendingChunks = (s.chunkQueue.countP fun ch => ch.ctx == x) +
      (match s.core with
        | some ch => if ch.ctx = x ∧ ch.slot = claim.slot ∧ ch.gen = claim.gen then 1 else 0
        | none => 0)
  /-- A fault record's detail has 8 bytes (Table 10-1). -/
  details : ∀ n : Fin 4, s.faults[n].detail.length = 8

/-- The links and what is in them. -/
structure State.LinksSound (s : State) : Prop where
  /-- Link M holds no frame, and Link E at most two (R174, R178). -/
  heldM : s.linkM.held = []
  heldE : s.linkE.held.length ≤ 2
  /-- Held frames wait on a reply or a RESTART (R171). -/
  behind : s.linkE.held = [] ∨ s.linkE.ordinary.isSome = true ∨ s.restartPending = true
  /-- A link has one outstanding WAIT, parked or answered (R165). -/
  waitM : s.linkM.parked = none ∨ s.linkM.waitReply = none
  waitE : s.linkE.parked = none ∨ s.linkE.waitReply = none
  /-- A pending RESTART's reply waits on Link M (R152). -/
  restart : s.restartPending = true → s.linkM.ordinary.isSome = true
  /-- A part that is held waits in STARTUP, its self-test not begun and its links as the reset left them
  (R149, R151, R172). -/
  held : s.deaf = true → s.mode = .startup ∧ s.selfTest = false ∧
    s.linkM = LinkState.fresh ∧ s.linkE = LinkState.fresh
  /-- Link M assembles a frame exactly in a request window that is not ignored (R174). -/
  assembles : s.linkM.rx ≠ .hunting ↔ s.spi = .request ∧ s.windowIgnored = false
  /-- A window that is ignored is open, and a held part ignores every window that is (R173). -/
  opened : (s.windowIgnored = true → s.spi ≠ .shut) ∧
    (s.deaf = true → s.spi ≠ .shut → s.windowIgnored = true)
  /-- While a window is ignored Link M has nothing to offer (R172, R173). -/
  ignored : s.windowIgnored = true → s.linkM.rx = .hunting ∧ s.linkM.ordinary = none ∧
    s.linkM.waitReply = none ∧ s.linkM.parked = none

/-- The capacities and the bookkeeping of the units. -/
structure State.Sound (s : State) : Prop where
  /-- The chunk queue holds at most eight chunks (R38). -/
  chunks : s.chunkQueue.length ≤ 8
  /-- The core does not stay idle while the queue holds an entry (R39). -/
  core : s.core = none → s.chunkQueue = []
  /-- The signature queue holds at most six waiting jobs (R58). -/
  jobs : s.jobs.length ≤ 6
  /-- The signature unit does not stay idle while the list holds a job (R60). -/
  unit : s.active = none → s.jobs = []
  /-- The reservation is held by the pending revocation (R90). -/
  reserved : s.reserved = s.revoking.isSome
  /-- A manifest buffer holds at most 8,304 bytes (R7). -/
  buffers : ∀ i : Fin 12, s.slots[i].buffer.length ≤ 8304
  /-- A class's attempt count never exceeds 3 (R107). -/
  attempts : ∀ c : Fin 8, s.classes[c].attempts ≤ 3
  /-- The failed-attempt count stays in 0..255 (R154). -/
  failed : s.failedCount ≤ 255
  /-- The timer runs in VERIFY and in no other mode, a tick pending (R127 to R129, R137). -/
  timer : s.window.running = true ↔ s.mode = .verify
  tick : s.window.running = true → s.window.toTick.isSome = true
  /-- In VERIFY some line is HELD (R120). -/
  undecided : s.mode = .verify → ∃ i : Fin 6, s.lines[i].state = .held
  /-- The self-test runs in STARTUP (R139). -/
  selfTest : s.selfTest = true → s.mode = .startup
  /-- In STARTUP no slot has been claimed and no unit has work (R1, R38, R58, R90). -/
  startup : s.mode = .startup → (∀ i : Fin 12, s.slots[i] = Slot.freed 0) ∧
    (∀ x : Fin 4, s.ctxs[x] = none) ∧ s.chunkQueue = [] ∧ s.core = none ∧ s.jobs = [] ∧
    s.active = none ∧ s.fuseOp = none ∧ s.reserved = false
  links : s.LinksSound
  tables : s.TablesSound
  work : s.WorkSound

/-- Every fuse that read 1 reads 1 (R89). -/
structure Fuses.Keeps (f g : Fuses) : Prop where
  floors  : ∀ (c : Fin 8) (i : Nat), f.floors[c].getLsbD i = true → g.floors[c].getLsbD i = true
  revoke  : ∀ i : Nat, f.revoke.getLsbD i = true → g.revoke.getLsbD i = true
  entries : ∀ (e : Fin 8) (i : Nat), f.entries[e].getLsbD i = true → g.entries[e].getLsbD i = true
  closing : ∀ i : Nat, f.closing.getLsbD i = true → g.closing.getLsbD i = true

end Sys2Proof.Machine
end

