-- ==== Sys2Proof/Certificates/Slice0/Obligations.lean ====
section
/-! DEFINITION. The statements for the provers, in the order of OBLIGATIONS.json. A request is
stated on a part at rest whose link is ready; `replied` is the state that the reply alone changes.
`sha256` and `signatureGood` are the functions the manual names, as the published standards define
them (assumption 1). -/

open Sys2Proof Sys2Proof.Machine

/-! ### The step -/

/-- A step takes the command at the front of the queue: it is that command's meaning on the state
with the queue's rest. -/
def Obligations.StepTakesFrontCommand : Prop :=
  ∀ (c : Instr) (rest : List Instr) (s : State),
    step { s with pending := c :: rest } = exec c { s with pending := rest }

/-- Every command completes, leaving both links at rest and the queue as it was (R166, R171), and the pins
as they are driven: a release line active exactly while RELEASED (R116), ATTN while a masked flag is set
(R164), TXD idle while no reply is being sent (R179), SDO driven in a window of Link M that is not ignored,
with the reply offered at its start, from its SYNC to its CRC, while no byte of the window is complete, and
with 0x00 otherwise (R173 to R175); of a held part every line and ATTN low, TXD idle and SDO not driven
(R149, R151, R172). That every command completes, and what shows a window, are the model's choice
(assumptions 6, 26). -/
def Obligations.EveryCommandEndsAtRest : Prop :=
  ∀ (c : Instr) (s : State), ∃ t, exec c s = .next t ∧ t.AtRest ∧ t.pending = s.pending ∧
    let up := !(t.resetNLow || t.supplyLow)
    (∀ i : Fin 6, t.pins.lines[i] = (decide (t.lines[i].state = .released) && up)) ∧
    t.pins.attnM = (decide (t.linkM.flags &&& t.linkM.attnMask ≠ 0) && up) ∧
    t.pins.attnE = (decide (t.linkE.flags &&& t.linkE.attnMask ≠ 0) && up) ∧
    t.pins.txdIdle = (decide (t.linkE.sending = none) || !up) ∧
    t.pins.sdoDriven = (decide (t.spi ≠ .shut ∧ t.windowIgnored = false) && up) ∧
    t.pins.sdo = (match t.pins.sdoDriven, t.spi with
      | true, .begun (some .ordinary) => t.linkM.ordinary.elim [] replyBytes
      | true, .begun (some .wait) => t.linkM.waitReply.elim [] replyBytes
      | _, _ => [])

/-! ### Reports and event requests -/

/-- IDENTIFY (R181): the vendor code 0x4156, the part code 0x0640, revision 1, the serial in the byte
order of a notice message, the mode and the closed fuse; in every mode, on either link, and nothing
changed but the reply. -/
def Obligations.IdentifyReports : Prop :=
  ∀ (s : State) (l : Link) (tag : Byte), s.AtRest → s.Ready l →
    exec (.identify l (goodRequest .identify tag [])) s =
      .next (s.replied l (replyOf .identify tag .ok
        ([0x56, 0x41, 0x40, 0x06, 0x01] ++ s.rom.serial.toList ++
          [modeCode s.mode, if s.fuses.closing.getLsbD 280 then 1 else 0]))) ∧
    ∀ target : Fin 10, s.noticeMessage target =
      [0x52, 0x45, 0x56, 0x4B, byteOf target] ++ s.rom.serial.toList

/-- STATUS (R182): the 58 bytes of Table 11-10, and nothing changed. -/
def Obligations.StatusReports : Prop :=
  ∀ (s : State) (l : Link) (tag : Byte), s.AtRest → s.Ready l →
    ∃ p, exec (.status l (goodRequest .status tag [])) s =
        .next (s.replied l (replyOf .status tag .ok p)) ∧
      p.length = 58 ∧
      slice p 0 2 = [modeCode s.mode, verdictCode s.verdict] ∧
      slice p 2 6 = leBytes 6 s.bootClock.toNat ∧
      slice p 8 3 = [byteOf s.window.count, byteOf s.window.prescale, byteOf s.window.extUsed] ∧
      (∀ i : Fin 6, byteAt p (11 + i) = lineStateCode s.lines[i].state) ∧
      (∀ c : Fin 8, byteAt p (17 + c) = classStateCode s.classes[c].state ∧
        byteAt p (25 + c) = byteOf s.classes[c].attempts ∧
        byteAt p (33 + c) = (match s.classes[c].verifiedSlot with | some i => byteOf i | none => 0xFF) ∧
        byteAt p (41 + c) = byteOf ((List.range 63).countP fun f => s.fuses.floors[c].getLsbD f)) ∧
      slice p 49 2 = leBytes 2 (s.link l).flags.toNat ∧
      byteAt p 51 = (if s.fuseOp.isSome then 1 else if s.reserved then 2 else 0) ∧
      byteAt p 52 = byteOf (s.jobs.length + if s.active.isSome then 1 else 0) ∧
      byteAt p 53 = byteOf ((List.finRange 4).countP fun x => s.ctxs[x].isNone) ∧
      byteAt p 54 = byteOf ((List.finRange 12).countP fun i => s.slots[i].state == .free) ∧
      slice p 55 3 = [byteOf (causeCode s.cause.last), s.cause.flags.setWidth 8, byteOf s.failedCount]

/-- EVENT_MASK (R163): the mask is stored with bits 9 to 15 zero, the flags and the other link are
left, and the pins follow. Every reset leaves the mask 0. -/
def Obligations.EventMaskStores : Prop :=
  (∀ (s : State) (l : Link) (tag : Byte) (m : Half), s.AtRest → s.Ready l →
    exec (.eventMask l (goodRequest .eventMask tag (leBytes 2 m.toNat))) s =
      .next (((s.replied l (replyOf .eventMask tag .ok
        (leBytes 2 (m &&& 0x1FF).toNat ++ leBytes 2 (s.link l).flags.toNat))).onLink l fun x =>
          { x with attnMask := m &&& 0x1FF }).drive)) ∧
  (∀ (s : State) (l : Link) (cause : ColdCause), ((s.coldReset cause).link l).attnMask = 0) ∧
  (∀ (s : State) (l : Link) (cause : ResetCause), ((s.warmReset cause).link l).attnMask = 0)

/-- EVENT_CLEAR (R162): the flags named in bits 0 to 8 are cleared on the requesting link alone. -/
def Obligations.EventClearClears : Prop :=
  ∀ (s : State) (l : Link) (tag : Byte) (m : Half), s.AtRest → s.Ready l →
    exec (.eventClear l (goodRequest .eventClear tag (leBytes 2 m.toNat))) s =
      .next (((s.replied l (replyOf .eventClear tag .ok
        (leBytes 2 ((s.link l).flags &&& ~~~(m &&& 0x1FF)).toNat))).onLink l fun x =>
          { x with flags := x.flags &&& ~~~(m &&& 0x1FF) }).drive)

/-- WAIT (R165): refused for an empty mask, then for an outstanding WAIT; answered at once into the
WAIT entry when a named flag is set; parked otherwise. The pins follow: a WAIT answered at once on Link E is
sent, so TXD no longer idles (R179), and of a Link M window nothing more comes (R174). -/
def Obligations.WaitTakes : Prop :=
  ∀ (s : State) (l : Link) (tag : Byte) (m : Half), s.AtRest → s.Ready l →
    exec (.wait l (goodRequest .wait tag (leBytes 2 m.toNat))) s =
      .next (if m &&& 0x1FF = 0 then s.replied l (replyOf .wait tag .badIndex [0, 0])
        else if (s.link l).parked ≠ none ∨ (s.link l).waitReply ≠ none then
          s.replied l (replyOf .wait tag .waitBusy [0, 0])
        else if (s.link l).flags &&& (m &&& 0x1FF) = 0 then
          ((s.spendWindow l).onLink l fun x =>
            { x with rx := .hunting, parked := some ⟨m &&& 0x1FF, tag⟩ }).drive
        else
          ((s.spendWindow l).onLink l fun x =>
            { x with rx := .hunting, sending := some .wait,
                     waitReply := some (replyOf .wait tag .ok (leBytes 2 x.flags.toNat)) }).drive)

/-- FAULT_READ (R160): the index and the 21 bytes of the record, or BAD_INDEX above 3. -/
def Obligations.FaultReadReports : Prop :=
  ∀ (s : State) (l : Link) (tag b : Byte), s.AtRest → s.Ready l →
    (3 < b.toNat → exec (.faultRead l (goodRequest .faultRead tag [b])) s =
      .next (s.replied l (replyOf .faultRead tag .badIndex (List.replicate 22 0)))) ∧
    ∀ i : Fin 4, b = byteOf i → s.faults[i].detail.length = 8 →
      ∃ p, exec (.faultRead l (goodRequest .faultRead tag [b])) s =
          .next (s.replied l (replyOf .faultRead tag .ok p)) ∧
        p.length = 22 ∧ byteAt p 0 = b ∧
        slice p 1 6 = leBytes 6 s.faults[i].stamp.toNat ∧
        byteAt p 7 = faultCode s.faults[i].code ∧
        (s.faults[i].code = .empty → byteAt p 7 = 0xFF) ∧
        (byteAt p 8).getLsbD 0 = s.faults[i].link.isSome ∧
        (byteAt p 8).getLsbD 1 = s.faults[i].slot.isSome ∧
        (byteAt p 8).getLsbD 2 = s.faults[i].cls.isSome ∧
        (byteAt p 8).getLsbD 3 = s.faults[i].seg.isSome ∧
        (byteAt p 8).getLsbD 4 = s.faults[i].key.isSome ∧
        byteAt p 9 = (match s.faults[i].link with | some .e => 1 | _ => 0) ∧
        byteAt p 10 = (match s.faults[i].slot with | some n => byteOf n | none => 0) ∧
        byteAt p 11 = (match s.faults[i].cls with | some n => byteOf n | none => 0) ∧
        byteAt p 12 = (match s.faults[i].seg with | some n => n | none => 0) ∧
        byteAt p 13 = (match s.faults[i].key with | some n => byteOf n | none => 0) ∧
        slice p 14 8 = s.faults[i].detail

/-- RESTART (R152): pending from Link M, with an OK reply; LINK_DENIED on Link E. -/
def Obligations.RestartPends : Prop :=
  ∀ (s : State) (tag : Byte), s.AtRest →
    (s.Ready .m → exec (.restart .m (goodRequest .restart tag [])) s =
      .next { s.replied .m (replyOf .restart tag .ok []) with restartPending := true }) ∧
    (s.Ready .e → exec (.restart .e (goodRequest .restart tag [])) s =
      .next (s.replied .e (replyOf .restart tag .linkDenied [])))

/-! ### Slots -/

/-- SLOT_OPEN (R6): the lowest FREE slot is claimed, its generation and the class's attempts rise by
one, and nothing else changes but the reply. -/
def Obligations.SlotOpenClaims : Prop :=
  ∀ (s : State) (l : Link) (tag : Byte) (c : Fin 8) (i : Fin 12), s.AtRest → s.Ready l →
    s.mode = .verify → s.classes[c].state = .pending →
    s.classes[c].linkMask.getLsbD (match l with | .m => 0 | .e => 1) = true →
    s.classes[c].attempts < 3 →
    s.slots[i].state = .free → (∀ j : Fin 12, j < i → s.slots[j].state ≠ .free) →
    exec (.slotOpen l (goodRequest .slotOpen tag [byteOf c])) s =
      .next (State.replied
        { s with
          slots := put s.slots i
            { state := .loading, cls := some c, owner := some l, gen := s.slots[i].gen + 1,
              buffer := [], parsed := none, segMap := [], sig := .pending, reason := none,
              openCtxs := [] },
          classes := put s.classes c { s.classes[c] with attempts := s.classes[c].attempts + 1 } }
        l (replyOf .slotOpen tag .ok [byteOf i, s.slots[i].gen + 1]))

/-- SLOT_OPEN refused (R108, R6): the first check of Table 7-3 that fails names the refusal, and
nothing changes but the reply. -/
def Obligations.SlotOpenRefuses : Prop :=
  ∀ (s : State) (l : Link) (tag b : Byte) (status : Status), s.AtRest → s.Ready l →
    ((s.mode ≠ .verify ∧ status = .wrongMode) ∨
     (s.mode = .verify ∧ 7 < b.toNat ∧ status = .badIndex) ∨
     (s.mode = .verify ∧ ∃ c : Fin 8, b = byteOf c ∧
       ((s.classes[c].state = .unused ∧ status = .classUnused) ∨
        (s.classes[c].state = .verified ∧ status = .classDone) ∨
        ((s.classes[c].state = .declined ∨ s.classes[c].state = .failed) ∧
          status = .classClosed) ∨
        (s.classes[c].state = .pending ∧
          ((s.classes[c].linkMask.getLsbD (match l with | .m => 0 | .e => 1) = false ∧
              status = .linkDenied) ∨
           (s.classes[c].linkMask.getLsbD (match l with | .m => 0 | .e => 1) = true ∧
             ((s.classes[c].attempts = 3 ∧ status = .classExhausted) ∨
              (s.classes[c].attempts ≠ 3 ∧ (∀ i : Fin 12, s.slots[i].state ≠ .free) ∧
                status = .noSlot)))))))) →
    exec (.slotOpen l (goodRequest .slotOpen tag [b])) s =
      .next (s.replied l (replyOf .slotOpen tag status [0, 0]))

/-- MAN_DATA (R5, R7): refused BAD_INDEX with a count of 0 for a slot index above 11; NOT_OWNER from a link
that does not own the slot, SLOT_STATE on a slot that is not LOADING, BAD_LENGTH for no data or more than
1,024 bytes, OFFSET elsewhere than at the received count and OVERFLOW past 8,304, each with the count as it
stands; otherwise the data are appended and the new count answered. -/
def Obligations.ManDataAppends : Prop :=
  ∀ (s : State) (l : Link) (tag : Byte) (offset : Nat) (data : List Byte),
    s.AtRest → s.Ready l → (s.mode = .verify ∨ s.mode = .settled) →
    data.length ≤ 1035 → offset < 65536 →
    let q (b : Byte) := goodRequest .manData tag (b :: leBytes 2 offset ++ data)
    (∀ b : Byte, 11 < b.toNat → exec (.manData l (q b)) s =
      .next (s.replied l (replyOf .manData tag .badIndex [0, 0]))) ∧
    ∀ i : Fin 12, exec (.manData l (q (byteOf i))) s =
      .next (
        let count := s.slots[i].buffer.length
        let refused (status : Status) : State := s.replied l (replyOf .manData tag status (leBytes 2 count))
        if s.slots[i].state ≠ .free ∧ s.slots[i].owner ≠ some l then refused .notOwner
        else if s.slots[i].state ≠ .loading then refused .slotState
        else if data.length = 0 ∨ 1024 < data.length then refused .badLength
        else if offset ≠ count then refused .offset
        else if 8304 < offset + data.length then refused .overflow
        else State.replied
          { s with
            slots := put s.slots i
              { s.slots[i] with buffer := s.slots[i].buffer ++ data } }
          l (replyOf .manData tag .ok (leBytes 2 (offset + data.length))))

/-- The seven manifest checks in order (R9 to R12, R26, R30, R32, Tables 1-6 and 11-13): the first that
fails names the result, with the key index and the detail of its fault record, and the parsed fields
are recorded when none does. -/
def Obligations.ManifestChecksInOrder : Prop :=
  ∀ (s : State) (c : Fin 8) (b : List Byte) (failure : Option CheckFailure),
    let k := (byteAt b 14).toNat
    let L := leNat (slice b 10 4)
    let N := leNat (slice b 16 2)
    let E := leNat (slice b 8 2) / 1024
    let header := byteAt b 0 = 0x01 ∧ byteAt b 5 = 0x02 ∧
      classTag (byteAt b 7).toNat = some (slice b 1 4)
    let geometry := 12 ≤ k ∧ k ≤ 16 ∧ 1 ≤ L ∧ L ≤ 16777216 ∧ N = (L + 2 ^ k - 1) / 2 ^ k ∧
      N ≤ 256 ∧ b.length = 112 + 32 * N ∧ (byteAt b 7).toNat = c.val
    ((48 ≤ b.length ∧ ¬header ∧ failure = some ⟨.badHeader, none, leBytes 2 b.length⟩) ∨
     ((48 ≤ b.length → header) ∧ (b.length < 48 ∨ byteAt b 6 ≠ 1) ∧
       failure = some ⟨.badFormat, none, leBytes 2 b.length⟩) ∨
     (48 ≤ b.length ∧ header ∧ byteAt b 6 = 1 ∧
       ((¬geometry ∧ failure = some ⟨.badGeometry, none,
           byteAt b 14 :: (leBytes 2 N ++ leBytes 4 L)⟩) ∨
        (geometry ∧ 9 < (byteAt b 18).toNat ∧ failure = some ⟨.badKey, none, []⟩) ∨
        (geometry ∧ ∃ key : Fin 10, (byteAt b 18).toNat = key.val ∧
          ((s.keyState key = .empty ∧ failure = some ⟨.badKey, some key, []⟩) ∨
           (s.keyState key = .revoked ∧ failure = some ⟨.keyRevoked, some key, []⟩) ∨
           (s.keyState key = .active ∧ (s.roleMask key).getLsbD c = false ∧
             failure = some ⟨.keyRole, some key, []⟩) ∨
           (s.keyState key = .active ∧ (s.roleMask key).getLsbD c = true ∧ E < s.floor c ∧
             failure = some ⟨.rollback, none, [byteOf E, byteOf (s.floor c)]⟩) ∨
           (s.keyState key = .active ∧ (s.roleMask key).getLsbD c = true ∧ s.floor c ≤ E ∧
             failure = none)))))) →
    match s.manifestChecks c b with
    | .error e => failure = some e
    | .ok p => failure = none ∧ p.version = leNat (slice b 8 2) ∧ p.epoch = E ∧ p.imageLen = L ∧
        p.exponent = k ∧ p.segCount = N ∧ p.flags = byteAt b 15 &&& 1 ∧
        p.key.val = (byteAt b 18).toNat ∧ p.label = slice b 20 28

/-- MAN_CLOSE (R5, R9, R14, R15): refused BAD_INDEX for a slot index above 11, NOT_OWNER from a link that does
not own the slot and SLOT_STATE on a slot that is not LOADING. Of a good manifest the parsed fields and an
unmatched map are recorded and the slot is CHECKING; behind a working unit the job waits at the tail, and an
idle unit starts it with its inputs (R58, R60, R63); with six jobs waiting the request is refused RETRY_LATER.
-/
def Obligations.ManCloseQueuesJob : Prop :=
  ∀ (s : State) (l : Link) (tag : Byte),
    s.AtRest → s.Ready l → (s.mode = .verify ∨ s.mode = .settled) →
    let refused (status : Status) : State := s.replied l (replyOf .manClose tag status [0, 0, 0])
    (∀ b : Byte, 11 < b.toNat →
      exec (.manClose l (goodRequest .manClose tag [b])) s = .next (refused .badIndex)) ∧
    ∀ i : Fin 12,
    let q := goodRequest .manClose tag [byteOf i]
    (s.slots[i].state ≠ .free → s.slots[i].owner ≠ some l →
      exec (.manClose l q) s = .next (refused .notOwner)) ∧
    ((s.slots[i].state = .free ∨ s.slots[i].owner = some l) → s.slots[i].state ≠ .loading →
      exec (.manClose l q) s = .next (refused .slotState)) ∧
    ∀ (c : Fin 8) (p : Parsed),
      s.slots[i].state = .loading → s.slots[i].owner = some l → s.slots[i].cls = some c →
      s.manifestChecks c s.slots[i].buffer = .ok p →
      let closed : Vector Slot 12 := put s.slots i
        { s.slots[i] with state := .checking, parsed := some p, sig := .pending,
                          segMap := List.replicate p.segCount false }
      let reply := replyOf .manClose tag .accepted (leBytes 2 p.segCount ++ [byteOf p.epoch])
      (s.jobs.length = 6 → exec (.manClose l q) s = .next (refused .retryLater)) ∧
      (s.jobs.length < 6 → s.active ≠ none →
        exec (.manClose l q) s = .next (State.replied
          { s with slots := closed, jobs := s.jobs ++ [.manifest i s.slots[i].gen] } l reply)) ∧
      (s.jobs = [] → s.active = none →
        exec (.manClose l q) s = .next (State.replied
          { s with
            slots := closed
            active := some (.manifest i s.slots[i].gen
              (s.slots[i].buffer.take (48 + 32 * p.segCount)) (s.keyBytes p.key)
              (slice s.slots[i].buffer (48 + 32 * p.segCount) 64)) }
          l reply))

/-- MAN_CLOSE that rejects (R13, R16, R18): a failed check rejects the slot with its code, which is also the
reply's status; the fault is recorded, and SLOT_DONE and FAULT are set on both links. A class that has
attempts left, is not PENDING or has another live slot stays as it was. Where it was the class's third attempt
and no other slot of it is live, the class is exhausted in the same event (R111, R112, R118): DECLINED if
OPTIONAL and FAILED if not, with CLASS_CHANGE, the lines following, and SETTLED_OUT where the part settles.
The zero N and epoch of that reply are the model's choice (assumption 16). Rejected slots have their work
released and their faults stored in order (R18, R159). Where no line is left HELD the part settles (R120,
R121). Each link is as it was but for the flags that the event posts and its reply, and a parked WAIT that
these answer (R161, R166). -/
def Obligations.ManCloseRejects : Prop :=
  ∀ (s : State) (l : Link) (tag : Byte) (i : Fin 12) (c : Fin 8) (e : CheckFailure),
    s.AtRest → s.Ready l → (s.mode = .verify ∨ s.mode = .settled) →
    s.slots[i].state = .loading → s.slots[i].owner = some l → s.slots[i].cls = some c →
    s.manifestChecks c s.slots[i].buffer = .error e →
    let command := Instr.manClose l (goodRequest .manClose tag [byteOf i])
    let reply := replyOf .manClose tag (.rejects e.code) [0, 0, 0]
    let faults := storeFault s.faults
      { stamp := s.bootClock, code := e.code, link := some l, slot := some i, cls := some c,
        seg := none, key := e.key, detail := padTo 8 e.detail }
    (¬s.Exhausts (fun j => j = i) c →
      (∀ x : Fin 4, ∀ claim, s.ctxs[x] = some claim → claim.slot ≠ i) →
      (∀ ch ∈ s.chunkQueue, ch.slot ≠ i) → (∀ g, Job.manifest i g ∉ s.jobs) →
      exec command s = .next (State.answered
        { s with
          slots := put s.slots i
            { s.slots[i] with state := .rejected, reason := some e.code, openCtxs := [] }
          faults := faults }
        l reply 0x081)) ∧
    (s.classes[c].state = .pending → s.classes[c].attempts = 3 →
      (∀ j : Fin 12, j ≠ i → s.slots[j].live = true → s.slots[j].cls ≠ some c) →
      ∃ t, exec command s = .next t ∧
        s.RejectsAll t (fun j => j = i) e.code ∧
        (State.replying { s with faults := faults } l reply).OrdersFollow t 0 [(.settledOut, none)] ∧
        t.chunkQueue = s.chunksLeft t ∧ t.core = s.core ∧
        s.classes[c].Closed t.classes[c] ∧
        (t.link l).ordinary = some reply)

/-- SLOT_QUERY (R5, R24): refused BAD_INDEX for a slot index above 11; otherwise, on either link, the 88
bytes of Table 11-11; and nothing changed. -/
def Obligations.SlotQueryReports : Prop :=
  ∀ (s : State) (l : Link) (tag : Byte), s.AtRest → s.Ready l →
    (s.mode = .verify ∨ s.mode = .settled) →
    (∀ b : Byte, 11 < b.toNat → exec (.slotQuery l (goodRequest .slotQuery tag [b])) s =
      .next (s.replied l (replyOf .slotQuery tag .badIndex (List.replicate 88 0)))) ∧
    ∀ i : Fin 12, s.slots[i].openCtxs.length ≤ 4 →
    ∃ p, exec (.slotQuery l (goodRequest .slotQuery tag [byteOf i])) s =
        .next (s.replied l (replyOf .slotQuery tag .ok p)) ∧
      p.length = 88 ∧
      slice p 0 2 = [slotStateCode s.slots[i].state, s.slots[i].gen] ∧
      slice p 2 2 = leBytes 2 s.slots[i].buffer.length ∧
      (byteAt p 4).getLsbD 0 = s.slots[i].cls.isSome ∧
      (byteAt p 4).getLsbD 1 = s.slots[i].parsed.isSome ∧
      (byteAt p 4).getLsbD 2 = s.slots[i].reason.isSome ∧
      byteAt p 5 = (match s.slots[i].cls with | some c => byteOf c | none => 0) ∧
      byteAt p 6 = (match s.slots[i].owner with | some .e => 1 | _ => 0) ∧
      (s.slots[i].parsed = none → slice p 7 40 = List.replicate 40 0) ∧
      (∀ m, s.slots[i].parsed = some m → m.label.length = 28 →
        slice p 7 40 = leBytes 2 m.version ++ [byteOf m.epoch] ++ leBytes 4 m.imageLen ++
          [byteOf m.exponent, m.flags] ++ leBytes 2 m.segCount ++ [byteOf m.key] ++ m.label) ∧
      slice p 47 2 = leBytes 2 (s.slots[i].segMap.countP id) ∧
      (∀ j : Fin 256, (byteAt p (49 + j / 8)).getLsbD (j % 8) = s.slots[i].segMap.getD j false) ∧
      byteAt p 81 = sigCode s.slots[i].sig ∧
      byteAt p 82 = (match s.slots[i].reason with | some r => faultCode r | none => 0) ∧
      byteAt p 83 = byteOf s.slots[i].openCtxs.length ∧
      (∀ n : Fin 4, byteAt p (84 + n) =
        (match s.slots[i].openCtxs[n.val]? with | some x => byteOf x | none => 0))

/-- SLOT_DROP (R2, R5, R18, R23): refused BAD_INDEX for a slot index above 11 and NOT_OWNER from a link that
does not own the slot; a VERIFIED slot is held; any other becomes FREE and keeps its generation. The drop of a
live slot frees its contexts, its chunks and its waiting job, and touches no other slot's. Where it leaves its
class with three attempts and no live slot, the class, if PENDING, is exhausted (R111, R118): DECLINED if
OPTIONAL and FAILED if not, with CLASS_CHANGE, and the lines follow, with SETTLED_OUT where the part settles;
otherwise the class stays as it was. Rejected slots have their work released and their faults stored in order
(R18, R159). Where no line is left HELD the part settles (R120, R121). Each link is as it was but for the
flags that the event posts and its reply, and a parked WAIT that these answer (R161, R166). -/
def Obligations.SlotDropFrees : Prop :=
  ∀ (s : State) (l : Link) (tag : Byte), s.AtRest → s.Ready l →
    (s.mode = .verify ∨ s.mode = .settled) →
    (∀ b : Byte, 11 < b.toNat → exec (.slotDrop l (goodRequest .slotDrop tag [b])) s =
      .next (s.replied l (replyOf .slotDrop tag .badIndex []))) ∧
    ∀ i : Fin 12,
    let q := goodRequest .slotDrop tag [byteOf i]
    let done := replyOf .slotDrop tag .ok []
    let live := s.slots[i].state = .loading ∨ s.slots[i].state = .checking ∨ s.slots[i].state = .signed
    let dropped : State := { s with
      slots := put s.slots i (Slot.freed s.slots[i].gen)
      ctxs := tabulate fun x =>
        match s.ctxs[x] with
        | some claim => if claim.slot = i then none else some claim
        | none => none
      chunkQueue := s.chunkQueue.filter fun ch =>
        !(ch.slot == i && ch.gen == s.slots[i].gen)
      jobs := s.jobs.filter fun j => j != .manifest i s.slots[i].gen }
    (s.slots[i].state ≠ .free → s.slots[i].owner ≠ some l →
      exec (.slotDrop l q) s = .next (s.replied l (replyOf .slotDrop tag .notOwner []))) ∧
    (s.slots[i].state = .free →
      exec (.slotDrop l q) s = .next (s.replied l done)) ∧
    (s.slots[i].owner = some l → s.slots[i].state = .verified →
      exec (.slotDrop l q) s = .next (s.replied l (replyOf .slotDrop tag .slotHeld []))) ∧
    (s.slots[i].owner = some l → s.slots[i].state = .rejected →
      exec (.slotDrop l q) s = .next (State.replied
        { s with slots := put s.slots i (Slot.freed s.slots[i].gen) } l done)) ∧
    (∀ c : Fin 8, s.slots[i].owner = some l → s.slots[i].cls = some c → live →
      (s.classes[c].attempts ≠ 3 ∨ s.classes[c].state ≠ .pending ∨
        ∃ j : Fin 12, j ≠ i ∧ s.slots[j].live = true ∧ s.slots[j].cls = some c) →
      exec (.slotDrop l q) s = .next (dropped.replied l done)) ∧
    (∀ c : Fin 8, s.slots[i].owner = some l → s.slots[i].cls = some c → live →
      s.classes[c].attempts = 3 → s.classes[c].state = .pending →
      (∀ j : Fin 12, j ≠ i → s.slots[j].live = true → s.slots[j].cls ≠ some c) →
      ∃ t, exec (.slotDrop l q) s = .next t ∧
        t.slots[i] = Slot.freed s.slots[i].gen ∧
        (∀ j : Fin 12, j ≠ i → s.SlotFollows t c .settledOut j) ∧
        t.classes = put s.classes c
          { s.classes[c] with
            state := if s.classes[c].disposition = .optional then .declined else .failed } ∧
        s.LinesFollow t ∧
        (dropped.replying l done).OrdersFollow t 0 [(.settledOut, none)] ∧
        t.chunkQueue = dropped.chunksLeft t ∧ t.core = s.core ∧
        (∀ k : Link, (t.link k).flags.getLsbD 1 = true) ∧
        (t.link l).ordinary = some done)

/-! ### Segments -/

/-- SEG_OPEN (R41, R42, R43, R27): refused BAD_INDEX, NOT_OWNER or SLOT_STATE on its slot, BAD_INDEX,
SEG_DONE or SEG_BUSY on its segment, and NO_CONTEXT when no context is IDLE; otherwise the lowest IDLE
context is claimed FILLING for the segment, with its length, and joins the end of the slot's
open-context list. -/
def Obligations.SegOpenClaims : Prop :=
  ∀ (s : State) (l : Link) (tag : Byte), s.AtRest → s.Ready l → (s.mode = .verify ∨ s.mode = .settled) →
    let q (b : Byte) (j : Nat) := goodRequest .segOpen tag (b :: leBytes 2 j)
    let refused (status : Status) : State := s.replied l (replyOf .segOpen tag status [0, 0, 0, 0, 0])
    (∀ (b : Byte) (j : Nat), 11 < b.toNat → exec (.segOpen l (q b j)) s = .next (refused .badIndex)) ∧
    (∀ (i : Fin 12) (j : Nat), s.slots[i].state ≠ .free → s.slots[i].owner ≠ some l →
      exec (.segOpen l (q (byteOf i) j)) s = .next (refused .notOwner)) ∧
    (∀ (i : Fin 12) (j : Nat), (s.slots[i].state = .free ∨ s.slots[i].owner = some l) →
      s.slots[i].state ≠ .checking → s.slots[i].state ≠ .signed →
      exec (.segOpen l (q (byteOf i) j)) s = .next (refused .slotState)) ∧
    ∀ (i : Fin 12) (p : Parsed) (j : Nat), s.slots[i].owner = some l →
      (s.slots[i].state = .checking ∨ s.slots[i].state = .signed) →
      s.slots[i].parsed = some p → j < 65536 →
      let matched := s.slots[i].segMap.getD j false = true
      let busy := ∃ y : Fin 4, ∃ claim, s.ctxs[y] = some claim ∧ claim.slot = i ∧ claim.seg = j
      let len := if j + 1 < p.segCount then 2 ^ p.exponent
        else p.imageLen - (p.segCount - 1) * 2 ^ p.exponent
      (p.segCount ≤ j → exec (.segOpen l (q (byteOf i) j)) s = .next (refused .badIndex)) ∧
      (j < p.segCount → matched → exec (.segOpen l (q (byteOf i) j)) s = .next (refused .segDone)) ∧
      (j < p.segCount → ¬matched → busy →
        exec (.segOpen l (q (byteOf i) j)) s = .next (refused .segBusy)) ∧
      (j < p.segCount → ¬matched → ¬busy → (∀ y : Fin 4, s.ctxs[y] ≠ none) →
        exec (.segOpen l (q (byteOf i) j)) s = .next (refused .noContext)) ∧
      ∀ x : Fin 4, j < p.segCount → ¬matched → ¬busy →
        s.ctxs[x] = none → (∀ y : Fin 4, y < x → s.ctxs[y] ≠ none) →
        exec (.segOpen l (q (byteOf i) j)) s =
          .next (State.replied
            { s with
              slots := put s.slots i { s.slots[i] with openCtxs := s.slots[i].openCtxs ++ [x] }
              ctxs := put s.ctxs x (some
                { slot := i, gen := s.slots[i].gen, seg := j, len := len, received := 0,
                  pendingChunks := 0, folded := [], draining := false }) }
            l (replyOf .segOpen tag .ok (byteOf x :: leBytes 4 len)))

/-- SEG_DATA (R44, R45, R46, R47): BAD_INDEX where no context holds the claim named; on a standing claim
NOT_OWNER, SLOT_STATE while DRAINING, BAD_LENGTH, OFFSET elsewhere than at the received count, OVERFLOW
past the segment and RETRY_LATER with eight chunks queued, each with the count as it stands; otherwise
the chunk joins the queue behind a working core, or goes to an idle core at once. -/
def Obligations.SegDataQueuesChunk : Prop :=
  ∀ (s : State) (l : Link) (tag : Byte) (offset : Nat) (data : List Byte),
    s.AtRest → s.Ready l → (s.mode = .verify ∨ s.mode = .settled) →
    offset < 65536 → data.length ≤ 1031 →
    let q (a b gen : Byte) (seg : Nat) :=
      goodRequest .segData tag ([a, b, gen] ++ leBytes 2 seg ++ leBytes 2 offset ++ data)
    (∀ (a b gen : Byte) (seg : Nat), seg < 65536 →
      (∀ (x : Fin 4) (claim : Claim), a = byteOf x → s.ctxs[x] = some claim →
        ¬(b = byteOf claim.slot ∧ gen = claim.gen ∧ seg = claim.seg)) →
      exec (.segData l (q a b gen seg)) s =
        .next (s.replied l (replyOf .segData tag .badIndex [0, 0, 0, 0]))) ∧
    ∀ (x : Fin 4) (claim : Claim), s.ctxs[x] = some claim → claim.seg < 65536 →
      exec (.segData l (q (byteOf x) (byteOf claim.slot) claim.gen claim.seg)) s = .next (
        let answered (t : State) (status : Status) (count : Nat) : State :=
          t.replied l (replyOf .segData tag status (leBytes 4 count))
        if s.slots[claim.slot].owner ≠ some l then answered s .notOwner claim.received
        else if claim.draining then answered s .slotState claim.received
        else if data.length = 0 ∨ 1024 < data.length then answered s .badLength claim.received
        else if offset ≠ claim.received then answered s .offset claim.received
        else if claim.len < offset + data.length then answered s .overflow claim.received
        else if 8 ≤ s.chunkQueue.length then answered s .retryLater claim.received
        else
          let queue := s.chunkQueue ++
            [{ ctx := x, slot := claim.slot, gen := claim.gen, offset := offset, data := data }]
          answered
            { s with
              ctxs := put s.ctxs x (some
                { claim with received := offset + data.length,
                             pendingChunks := claim.pendingChunks + 1 })
              core := if s.core = none then queue.head? else s.core
              chunkQueue := if s.core = none then queue.tail else queue }
            .ok (offset + data.length))

/-- SEG_CLOSE (R44, R48): BAD_INDEX where no context holds the claim named, NOT_OWNER, SLOT_STATE while
DRAINING and SHORT below the segment's length; a complete segment with chunks pending becomes DRAINING; with
none pending it completes at once (R50, R21), and a match marks the segment: a CHECKING slot, or a SIGNED one
with segments unmatched, stays so, and a SIGNED slot whose map is full enters VERIFIED. A mismatch rejects the
slot SEG_MISMATCH with both digests' first bytes (R22, R52), its work is released, and its class, where that
exhausts it, is closed (R111, R118). Rejected slots have their work released and their faults stored in order
(R18, R159). Where no line is left HELD the part settles (R120, R121). A slot that is VERIFIED wins its class
(R110). Each link is as it was but for the flags that the event posts and its reply, and a parked WAIT that
these answer (R161, R166). -/
def Obligations.SegCloseDrains : Prop :=
  ∀ (s : State) (l : Link) (tag : Byte),
    s.AtRest → s.Ready l → (s.mode = .verify ∨ s.mode = .settled) →
    let q (a b gen : Byte) (seg : Nat) := goodRequest .segClose tag ([a, b, gen] ++ leBytes 2 seg)
    (∀ (a b gen : Byte) (seg : Nat), seg < 65536 →
      (∀ (x : Fin 4) (claim : Claim), a = byteOf x → s.ctxs[x] = some claim →
        ¬(b = byteOf claim.slot ∧ gen = claim.gen ∧ seg = claim.seg)) →
      exec (.segClose l (q a b gen seg)) s =
        .next (s.replied l (replyOf .segClose tag .badIndex [0]))) ∧
    ∀ (x : Fin 4) (claim : Claim), s.ctxs[x] = some claim → claim.seg < 65536 →
      let named := q (byteOf x) (byteOf claim.slot) claim.gen claim.seg
      (s.slots[claim.slot].owner ≠ some l →
        exec (.segClose l named) s = .next (s.replied l
          (replyOf .segClose tag .notOwner [if claim.draining then 2 else 1]))) ∧
      (s.slots[claim.slot].owner = some l → claim.draining = true →
        exec (.segClose l named) s = .next (s.replied l (replyOf .segClose tag .slotState [2]))) ∧
      (s.slots[claim.slot].owner = some l → claim.draining = false →
        (claim.received ≠ claim.len →
          exec (.segClose l named) s = .next (s.replied l (replyOf .segClose tag .short [1]))) ∧
        (claim.received = claim.len → 0 < claim.pendingChunks →
          exec (.segClose l named) s =
            .next (State.replied { s with ctxs := put s.ctxs x (some { claim with draining := true }) }
              l (replyOf .segClose tag .ok [2]))) ∧
        (claim.received = claim.len → claim.pendingChunks = 0 →
          s.slots[claim.slot].gen = claim.gen →
          sha256 claim.folded = slice s.slots[claim.slot].buffer (48 + 32 * claim.seg) 32 →
          let after : Slot :=
            { s.slots[claim.slot] with
              segMap := s.slots[claim.slot].segMap.set claim.seg true
              openCtxs := s.slots[claim.slot].openCtxs.filter fun o => o != x }
          (∀ p : Parsed, (after.state = .checking ∨
              (after.state = .signed ∧ after.parsed = some p ∧ after.segMap.countP id ≠ p.segCount)) →
            exec (.segClose l named) s =
              .next (State.replied
                { s with ctxs := put s.ctxs x none, slots := put s.slots claim.slot after }
                l (replyOf .segClose tag .ok [0]))) ∧
          (∀ (p : Parsed) (c : Fin 8), after.state = .signed → after.parsed = some p →
            after.cls = some c → after.segMap.countP id = p.segCount →
            ∃ t, exec (.segClose l named) s = .next t ∧ s.SlotWins t claim.slot after c ∧
              (State.replying { s with ctxs := put s.ctxs x none } l
                (replyOf .segClose tag .ok [0])).OrdersFollow t 0x003
                [(.classDoneLate, none), (.settledOut, none)] ∧
              t.chunkQueue = s.chunksLeft t ∧ t.core = s.core ∧
              t.ctxs[x] = none ∧ (t.link l).ordinary = some (replyOf .segClose tag .ok [0]))) ∧
        (claim.received = claim.len → claim.pendingChunks = 0 →
          s.slots[claim.slot].gen = claim.gen →
          (s.slots[claim.slot].state = .checking ∨ s.slots[claim.slot].state = .signed) →
          let expected := slice s.slots[claim.slot].buffer (48 + 32 * claim.seg) 32
          sha256 claim.folded ≠ expected →
          ∃ t, exec (.segClose l named) s = .next t ∧
            s.RejectsAll t (fun j => j = claim.slot) .segMismatch ∧
            (State.replying
              { s with
                faults := storeFault s.faults
                  { stamp := s.bootClock, code := .segMismatch, link := some l,
                    slot := some claim.slot, cls := s.slots[claim.slot].cls,
                    seg := some (byteOf claim.seg), key := none,
                    detail := padTo 8 (padTo 4 expected ++ padTo 4 (sha256 claim.folded)) } }
              l (replyOf .segClose tag .ok [0])).OrdersFollow t 0 [(.settledOut, none)] ∧
            t.chunkQueue = s.chunksLeft t ∧ t.core = s.core ∧
            (t.link l).ordinary = some (replyOf .segClose tag .ok [0])))

/-! ### Classes, the window and floors -/

/-- CLASS_DECLINE (R113, R114): refused BAD_INDEX above 7, NOT_OPTIONAL for another disposition, CLASS_DONE
when VERIFIED and CLASS_CLOSED when DECLINED or FAILED. A PENDING OPTIONAL class becomes DECLINED with its
attempts kept and its live slots are rejected DECLINED; CLASS_CHANGE is set on both links, the lines follow
(R118, R120, R121), with SETTLED_OUT for the other live slots where the part settles, and the reply is OK. The
work of every slot rejected is released (R18), their faults are stored in ascending slot index, the DECLINED
order's first (R159), and SLOT_DONE is set. Each link is as it was but for the flags that the event posts and
its reply, and a parked WAIT that these answer (R161, R166). -/
def Obligations.ClassDeclineDeclines : Prop :=
  ∀ (s : State) (l : Link) (tag : Byte), s.AtRest → s.Ready l → s.mode = .verify →
    let refused (status : Status) : State := s.replied l (replyOf .classDecline tag status [])
    (∀ b : Byte, 7 < b.toNat →
      exec (.classDecline l (goodRequest .classDecline tag [b])) s = .next (refused .badIndex)) ∧
    (∀ (c : Fin 8) (status : Status),
      ((s.classes[c].disposition ≠ .optional ∧ status = .notOptional) ∨
       (s.classes[c].disposition = .optional ∧ s.classes[c].state = .verified ∧
         status = .classDone) ∨
       (s.classes[c].disposition = .optional ∧
         (s.classes[c].state = .declined ∨ s.classes[c].state = .failed) ∧
         status = .classClosed)) →
      exec (.classDecline l (goodRequest .classDecline tag [byteOf c])) s = .next (refused status)) ∧
    (∀ c : Fin 8, s.classes[c].disposition = .optional → s.classes[c].state = .pending →
      ∃ t, exec (.classDecline l (goodRequest .classDecline tag [byteOf c])) s = .next t ∧
        t.classes = put s.classes c { s.classes[c] with state := .declined } ∧
        (∀ i : Fin 12, s.SlotFollows t c .declined i) ∧
        s.LinesFollow t ∧
        (t.link l).ordinary = some (replyOf .classDecline tag .ok []) ∧
        (∀ k : Link, (t.link k).flags.getLsbD 1 = true) ∧
        (s.replying l (replyOf .classDecline tag .ok [])).OrdersFollow t 0
          [(.declined, none), (.settledOut, none)] ∧
        t.chunkQueue = s.chunksLeft t ∧ t.core = s.core)

/-- WINDOW_EXTEND (R131, R132): the count is reloaded, the interval restarted and one extension used,
WINDOW_LOW set where R div 4 is R; with none left, NO_EXTENSION and no change; outside VERIFY,
WRONG_MODE. That the interval is held as the microseconds to the next tick is the model's choice
(assumption 9). -/
def Obligations.WindowExtendReloads : Prop :=
  ∀ (s : State) (l : Link) (tag : Byte), s.AtRest → s.Ready l →
    (s.mode ≠ .verify →
      exec (.windowExtend l (goodRequest .windowExtend tag [])) s =
        .next (s.replied l (replyOf .windowExtend tag .wrongMode
          [byteOf s.window.count, byteOf s.window.extUsed]))) ∧
    (s.mode = .verify → s.window.extMax ≤ s.window.extUsed →
      exec (.windowExtend l (goodRequest .windowExtend tag [])) s =
        .next (s.replied l (replyOf .windowExtend tag .noExtension
          [byteOf s.window.count, byteOf s.window.extUsed]))) ∧
    (s.mode = .verify → s.window.extUsed < s.window.extMax →
      exec (.windowExtend l (goodRequest .windowExtend tag [])) s =
        .next (State.answered
          { s with
            window := { s.window with
              count := s.window.reload, extUsed := s.window.extUsed + 1
              toTick := some (2 ^ s.window.prescale * 1000) } }
          l (replyOf .windowExtend tag .ok
            [byteOf s.window.reload, byteOf (s.window.extUsed + 1)])
          (if s.window.reload / 4 = s.window.reload then 0x010 else 0)))

/-- FLOOR_ADVANCE (R34, R35, R96, R97): refused BAD_INDEX for a slot index above 11; NOT_OWNER, SLOT_STATE
unless VERIFIED and NOT_ADVANCE without ADVANCE, each with the floor of the slot's class, zero for a slot
without one. From the owner of a VERIFIED slot with ADVANCE set, on an idle controller, T = min(E, F +
MAX_STEP); no burn when T is at most F, else a FLOOR operation over fuses F + 1 to T. A controller busy or
reserved refuses RETRY_LATER with F. -/
def Obligations.FloorAdvanceStarts : Prop :=
  ∀ (s : State) (l : Link) (tag : Byte),
    s.AtRest → s.Ready l → (s.mode = .verify ∨ s.mode = .settled) →
    (∀ b : Byte, 11 < b.toNat → exec (.floorAdvance l (goodRequest .floorAdvance tag [b])) s =
      .next (s.replied l (replyOf .floorAdvance tag .badIndex [0, 0]))) ∧
    ∀ i : Fin 12,
    let q := goodRequest .floorAdvance tag [byteOf i]
    let floor (c : Fin 8) := (List.range 63).countP fun f => s.fuses.floors[c].getLsbD f
    (∀ status : Status,
      ((s.slots[i].state ≠ .free ∧ s.slots[i].owner ≠ some l ∧ status = .notOwner) ∨
       ((s.slots[i].state = .free ∨ s.slots[i].owner = some l) ∧ s.slots[i].state ≠ .verified ∧
         status = .slotState) ∨
       (s.slots[i].state = .verified ∧ s.slots[i].owner = some l ∧
         (∃ p, s.slots[i].parsed = some p ∧ p.flags.getLsbD 0 = false) ∧ status = .notAdvance)) →
      exec (.floorAdvance l q) s = .next (s.replied l (replyOf .floorAdvance tag status
        [(match s.slots[i].cls with | some c => byteOf (floor c) | none => 0), 0]))) ∧
    ∀ (c : Fin 8) (p : Parsed) (policy : Policy),
      s.slots[i].state = .verified → s.slots[i].owner = some l → s.slots[i].cls = some c →
      s.slots[i].parsed = some p → p.flags.getLsbD 0 = true → s.inForce = some policy →
      let F := floor c
      let T := min p.epoch (F + policy.maxStep.toNat)
      ((s.fuseOp ≠ none ∨ s.reserved = true) →
        exec (.floorAdvance l q) s =
          .next (s.replied l (replyOf .floorAdvance tag .retryLater [byteOf F, 0]))) ∧
      (s.fuseOp = none → s.reserved = false → T ≤ F →
        exec (.floorAdvance l q) s =
          .next (s.replied l (replyOf .floorAdvance tag .ok [byteOf F, byteOf T]))) ∧
      (s.fuseOp = none → s.reserved = false → F < T →
        exec (.floorAdvance l q) s =
          .next (State.replied
            { s with
              fuseOp := some { kind := .floor i c T, position := 0, link := l,
                               burnList := (List.range (T - F)).map fun n => F + 1 + n } }
            l (replyOf .floorAdvance tag .accepted [byteOf F, byteOf T])))

/-! ### Keys -/

/-- KEY_QUERY (R77, R74): the 28 bytes of the reply, in every mode, and nothing changed. -/
def Obligations.KeyQueryReports : Prop :=
  ∀ (s : State) (l : Link) (tag b : Byte), s.AtRest → s.Ready l →
    (9 < b.toNat → exec (.keyQuery l (goodRequest .keyQuery tag [b])) s =
      .next (s.replied l (replyOf .keyQuery tag .badIndex (List.replicate 28 0)))) ∧
    (∀ k : Fin 2, b = byteOf k →
      ∃ p, exec (.keyQuery l (goodRequest .keyQuery tag [b])) s =
          .next (s.replied l (replyOf .keyQuery tag .ok p)) ∧
        p.length = 28 ∧
        byteAt p 0 = (if s.fuses.revoke.getLsbD k then 2 else 1) ∧ byteAt p 1 = 0xFF ∧
        slice p 2 8 = s.rom.roots[k].label.toList ∧
        slice p 10 8 = (sha256 s.rom.roots[k].key.toList).take 8 ∧
        byteAt p 18 = 0 ∧
        byteAt p 19 = (if s.revoking.map (fun t => t.val) = some k.val then 1 else 0) ∧
        (∀ c : Fin 8, byteAt p (20 + c) =
          byteOf ((List.range 63).countP fun f => s.fuses.floors[c].getLsbD f))) ∧
    (∀ e : Fin 8, b.toNat = e.val + 2 →
      ∃ p, exec (.keyQuery l (goodRequest .keyQuery tag [b])) s =
          .next (s.replied l (replyOf .keyQuery tag .ok p)) ∧
        p.length = 28 ∧
        byteAt p 0 = (if s.fuses.revoke.getLsbD (e.val + 2) then 2
          else if s.fuses.entries[e].getLsbD 584 then 1 else 0) ∧
        (∀ i : Fin 8, (byteAt p 1).getLsbD i = s.fuses.entries[e].getLsbD i) ∧
        (∀ m i : Fin 8, (byteAt p (2 + m)).getLsbD i =
          s.fuses.entries[e].getLsbD (8 + 8 * (64 + m) + i)) ∧
        slice p 10 8 = (sha256 ((List.range 64).map fun m =>
          s.fuses.entries[e].extractLsb' (8 + 8 * m) 8)).take 8 ∧
        byteAt p 18 = (if s.fuses.entries[e].extractLsb' 0 584 = 0 then 1 else 0) ∧
        byteAt p 19 = (if s.revoking.map (fun t => t.val) = some (e.val + 2) then 1 else 0) ∧
        (∀ c : Fin 8, byteAt p (20 + c) =
          byteOf ((List.range 63).countP fun f => s.fuses.floors[c].getLsbD f)))

/-- KEY_REVOKE (R78, R79, R59, R67): refused BAD_INDEX above 9, KEY_STATE unless the target is ACTIVE,
BAD_SIGNER unless the signer is an ACTIVE root that is not the target, and RETRY_LATER while the
controller is busy or reserved or six jobs wait; otherwise the controller is reserved, the pending
record set, and the job waits or starts. -/
def Obligations.KeyRevokeReserves : Prop :=
  ∀ (s : State) (l : Link) (tag a b : Byte) (sig : List Byte),
    s.AtRest → s.Ready l → (s.mode = .verify ∨ s.mode = .settled) → sig.length = 64 →
    let q := goodRequest .keyRevoke tag (a :: b :: sig)
    let signs (target : Fin 10) (r : Fin 2) : Prop :=
      b = byteOf r ∧ s.fuses.revoke.getLsbD r = false ∧ target.val ≠ r.val
    (∀ status : Status,
      ((9 < a.toNat ∧ status = .badIndex) ∨
       ∃ target : Fin 10, a = byteOf target ∧
         ((s.keyState target ≠ .active ∧ status = .keyState) ∨
          (s.keyState target = .active ∧ (∀ r, ¬signs target r) ∧ status = .badSigner) ∨
          (s.keyState target = .active ∧ (∃ r, signs target r) ∧
            (s.fuseOp ≠ none ∨ s.reserved = true ∨ 6 ≤ s.jobs.length) ∧ status = .retryLater))) →
      exec (.keyRevoke l q) s = .next (s.replied l (replyOf .keyRevoke tag status [0]))) ∧
    ∀ (target : Fin 10) (r : Fin 2), a = byteOf target → s.keyState target = .active →
      signs target r → s.fuseOp = none → s.reserved = false →
      (s.jobs.length < 6 → s.active ≠ none →
        exec (.keyRevoke l q) s =
          .next (State.replied
            { s with reserved := true, revoking := some target,
                     jobs := s.jobs ++ [.revoke l target r sig] }
            l (replyOf .keyRevoke tag .accepted [byteOf target]))) ∧
      (s.jobs = [] → s.active = none →
        exec (.keyRevoke l q) s =
          .next (State.replied
            { s with reserved := true, revoking := some target,
                     active := some (.revoke l target r
                       ([0x52, 0x45, 0x56, 0x4B, byteOf target] ++ s.rom.serial.toList)
                       s.rom.roots[r].key.toList sig) }
            l (replyOf .keyRevoke tag .accepted [byteOf target])))

/-- KEY_ENROLL (R84, R85): refused LINK_DENIED on Link E, BAD_INDEX outside 2 to 9, KEY_STATE unless the
entry is EMPTY and RETRY_LATER while the controller is busy; otherwise the burn list is the role and
data fuses whose new value is 1, in ascending order, then the active fuse; its length is answered and
the controller is busy. -/
def Obligations.KeyEnrollStarts : Prop :=
  ∀ (s : State) (tag role : Byte) (key label : List Byte), s.AtRest →
    s.mode = .provision → key.length = 64 → label.length = 8 →
    let q (b : Byte) := goodRequest .keyEnroll tag (b :: role :: key ++ label)
    let refused (l : Link) (status : Status) : State :=
      s.replied l (replyOf .keyEnroll tag status [0, 0, 0])
    (∀ b : Byte, s.Ready .e → exec (.keyEnroll .e (q b)) s = .next (refused .e .linkDenied)) ∧
    (∀ b : Byte, s.Ready .m → (b.toNat < 2 ∨ 9 < b.toNat) →
      exec (.keyEnroll .m (q b)) s = .next (refused .m .badIndex)) ∧
    ∀ e : Fin 8, s.Ready .m →
      let empty := s.fuses.revoke.getLsbD (e.val + 2) = false ∧ s.fuses.entries[e].getLsbD 584 = false
      let list := ((List.range 584).filter fun n =>
        (byteAt (role :: key ++ label) (n / 8)).getLsbD (n % 8)) ++ [584]
      (¬empty → exec (.keyEnroll .m (q (byteOf (e.val + 2)))) s = .next (refused .m .keyState)) ∧
      (empty → (s.fuseOp ≠ none ∨ s.reserved = true) →
        exec (.keyEnroll .m (q (byteOf (e.val + 2)))) s = .next (refused .m .retryLater)) ∧
      (empty → s.fuseOp = none → s.reserved = false →
        exec (.keyEnroll .m (q (byteOf (e.val + 2)))) s =
          .next (State.replied
            { s with
              fuseOp := some { kind := .enroll e, burnList := list, position := 0, link := .m } }
            .m (replyOf .keyEnroll tag .accepted (byteOf (e.val + 2) :: leBytes 2 list.length))))

/-! ### The policy -/

/-- POLICY_SET (R145): refused LINK_DENIED on Link E, BAD_INDEX with the lowest class whose disposition
byte is out of range, and RETRY_LATER while the controller is busy; otherwise the staging takes the 33
bytes, clamped, and the reply carries them as stored. -/
def Obligations.PolicySetStores : Prop :=
  ∀ (s : State) (tag : Byte) (b : List Byte), s.AtRest → s.mode = .provision → b.length = 33 →
    (s.Ready .e → exec (.policySet .e (goodRequest .policySet tag b)) s =
      .next (s.replied .e (replyOf .policySet tag .linkDenied (List.replicate 34 0)))) ∧
    (∀ c : Fin 8, s.Ready .m →
      2 < (byteAt b c).toNat → (∀ d : Fin 8, d < c → (byteAt b d).toNat ≤ 2) →
      exec (.policySet .m (goodRequest .policySet tag b)) s =
        .next (s.replied .m (replyOf .policySet tag .badIndex (byteOf c :: List.replicate 33 0)))) ∧
    (s.Ready .m → (∀ c : Fin 8, (byteAt b c).toNat ≤ 2) → (s.fuseOp ≠ none ∨ s.reserved = true) →
      exec (.policySet .m (goodRequest .policySet tag b)) s =
        .next (s.replied .m (replyOf .policySet tag .retryLater (List.replicate 34 0)))) ∧
    (s.Ready .m → (∀ c : Fin 8, (byteAt b c).toNat ≤ 2) → s.fuseOp = none → s.reserved = false →
      ∃ p : Policy,
        exec (.policySet .m (goodRequest .policySet tag b)) s =
          .next (State.replied { s with staging := p } .m
            (replyOf .policySet tag .ok (0 :: policyBytes p))) ∧
        (∀ c : Fin 8, dispositionCode p.dispositions[c] = byteAt b c ∧
          p.linkMasks[c] = byteAt b (8 + c) &&& 3) ∧
        (∀ i : Fin 6, p.need[i] = byteAt b (16 + i) ∧ p.soft[i] = byteAt b (22 + i)) ∧
        p.reload = byteAt b 28 ∧
        p.prescale.toNat = min 7 (byteAt b 29).toNat ∧ p.extMax.toNat = min 3 (byteAt b 30).toNat ∧
        p.maxRetry.toNat = min 15 (byteAt b 31).toNat ∧
        p.maxStep.toNat = max 1 (min 16 (byteAt b 32).toNat))

/-- POLICY_GET (R146): WRONG_MODE in STARTUP and FAILSAFE, LINK_DENIED on Link E, the staging in
PROVISION, and the policy in force in VERIFY and SETTLED. -/
def Obligations.PolicyGetReports : Prop :=
  ∀ (s : State) (l : Link) (tag : Byte), s.AtRest → s.Ready l →
    ((s.mode = .startup ∨ s.mode = .failsafe) →
      exec (.policyGet l (goodRequest .policyGet tag [])) s =
        .next (s.replied l (replyOf .policyGet tag .wrongMode (List.replicate 34 0)))) ∧
    (l = .e → (s.mode = .provision ∨ s.mode = .verify ∨ s.mode = .settled) →
      exec (.policyGet l (goodRequest .policyGet tag [])) s =
        .next (s.replied l (replyOf .policyGet tag .linkDenied (List.replicate 34 0)))) ∧
    (l = .m → s.mode = .provision →
      exec (.policyGet l (goodRequest .policyGet tag [])) s =
        .next (s.replied l (replyOf .policyGet tag .ok (0 :: policyBytes s.staging)))) ∧
    (∀ p, l = .m → (s.mode = .verify ∨ s.mode = .settled) → s.inForce = some p →
      exec (.policyGet l (goodRequest .policyGet tag [])) s =
        .next (s.replied l (replyOf .policyGet tag .ok (1 :: policyBytes p))))

/-- PROVISION_CLOSE (R147, R148): refused LINK_DENIED on Link E, then with the first of the four conditions
that fails and its index, then RETRY_LATER while the controller is busy; a valid staging starts a CLOSE
operation over the block fuses whose new value is 1, then the closed fuse (R102). -/
def Obligations.ProvisionCloseStarts : Prop :=
  ∀ (s : State) (tag : Byte), s.AtRest → s.mode = .provision →
    let masked (i : Fin 6) (c : Fin 8) : Prop :=
      s.staging.need[i].getLsbD c = true ∨ s.staging.soft[i].getLsbD c = true
    let stray (i : Fin 6) : Prop := ∃ c, masked i c ∧ s.staging.dispositions[c] = .unused
    let lost (c : Fin 8) : Prop := s.staging.dispositions[c] ≠ .unused ∧ ∀ i, ¬masked i c
    let shared (i : Fin 6) : Prop :=
      ∃ c : Fin 8, s.staging.need[i].getLsbD c = true ∧ s.staging.soft[i].getLsbD c = true
    (s.Ready .e → exec (.provisionClose .e (goodRequest .provisionClose tag [])) s =
      .next (s.replied .e (replyOf .provisionClose tag .linkDenied [0, 0, 0, 0]))) ∧
    (∀ cond index : Byte, s.Ready .m →
      ((s.staging.need[0] = 0 ∧ cond = 1 ∧ index = 0) ∨
       (s.staging.need[0] ≠ 0 ∧ ∃ i, stray i ∧ (∀ j, j < i → ¬stray j) ∧
         cond = 2 ∧ index = byteOf i) ∨
       (s.staging.need[0] ≠ 0 ∧ (∀ i, ¬stray i) ∧ ∃ c, lost c ∧ (∀ d, d < c → ¬lost d) ∧
         cond = 3 ∧ index = byteOf c) ∨
       (s.staging.need[0] ≠ 0 ∧ (∀ i, ¬stray i) ∧ (∀ c, ¬lost c) ∧ ∃ i, shared i ∧
         (∀ j, j < i → ¬shared j) ∧ cond = 4 ∧ index = byteOf i)) →
      exec (.provisionClose .m (goodRequest .provisionClose tag [])) s =
        .next (s.replied .m (replyOf .provisionClose tag .policyInvalid [cond, index, 0, 0]))) ∧
    (s.Ready .m → s.staging.need[0] ≠ 0 → (∀ i, ¬stray i) → (∀ c, ¬lost c) → (∀ i, ¬shared i) →
      ((s.fuseOp ≠ none ∨ s.reserved = true) →
        exec (.provisionClose .m (goodRequest .provisionClose tag [])) s =
          .next (s.replied .m (replyOf .provisionClose tag .retryLater [0, 0, 0, 0]))) ∧
      (s.fuseOp = none → s.reserved = false →
        let block := policyBytes s.staging ++ leBytes 2 (crc16 (policyBytes s.staging)).toNat
        let list := ((List.range 280).filter fun n => (byteAt block (n / 8)).getLsbD (n % 8)) ++ [280]
        exec (.provisionClose .m (goodRequest .provisionClose tag [])) s =
          .next (State.replied
            { s with fuseOp := some { kind := .close, burnList := list, position := 0, link := .m } }
            .m (replyOf .provisionClose tag .accepted ([0, 0] ++ leBytes 2 list.length)))))

/-! ### The digest unit -/

/-- CHUNK_DIGESTED (R39, R40): a chunk of a standing claim is folded in and one fewer is pending; a
chunk whose claim is gone or another's is discarded. The core then takes the oldest entry. -/
def Obligations.ChunkFoldsOrIsDiscarded : Prop :=
  ∀ (s : State) (ch : Chunk), s.AtRest → s.core = some ch →
    (∀ claim, s.ctxs[ch.ctx] = some claim → claim.slot = ch.slot → claim.gen = ch.gen →
      (claim.draining = false ∨ 1 < claim.pendingChunks) →
      exec .chunkDigested s = .next { s with
        ctxs := put s.ctxs ch.ctx (some
          { claim with folded := claim.folded ++ ch.data, pendingChunks := claim.pendingChunks - 1 })
        core := s.chunkQueue.head?
        chunkQueue := s.chunkQueue.tail }) ∧
    ((∀ claim, s.ctxs[ch.ctx] = some claim → claim.slot ≠ ch.slot ∨ claim.gen ≠ ch.gen) →
      exec .chunkDigested s = .next { s with
        core := s.chunkQueue.head?
        chunkQueue := s.chunkQueue.tail })

/-- A context that completes at its last chunk with equal digests (R40, R50, R21): the context is IDLE and the
segment matched. A CHECKING slot, or a SIGNED one with segments unmatched, stays so and nothing else changes;
a SIGNED slot whose map is full enters VERIFIED (R19), its class is VERIFIED with it and the class's other
live slots are rejected CLASS_DONE_LATE (R110), the lines follow (R118), and where no line is left HELD the
part settles (R120, R121). Rejected slots have their work released and their faults stored in order (R18,
R159). Each link is as it was but for the flags that the event posts, and a parked WAIT that these answer
(R161, R166). -/
def Obligations.SegmentMatches : Prop :=
  ∀ (s : State) (ch : Chunk) (claim : Claim), s.AtRest → s.core = some ch →
    s.ctxs[ch.ctx] = some claim → claim.slot = ch.slot → claim.gen = ch.gen →
    claim.draining = true → claim.pendingChunks = 1 → s.slots[claim.slot].gen = claim.gen →
    sha256 (claim.folded ++ ch.data) =
      slice s.slots[claim.slot].buffer (48 + 32 * claim.seg) 32 →
    let after : Slot :=
      { s.slots[claim.slot] with
        segMap := s.slots[claim.slot].segMap.set claim.seg true
        openCtxs := s.slots[claim.slot].openCtxs.filter fun o => o != ch.ctx }
    (∀ p : Parsed, (after.state = .checking ∨
        (after.state = .signed ∧ after.parsed = some p ∧ after.segMap.countP id ≠ p.segCount)) →
      exec .chunkDigested s = .next { s with
        ctxs := put s.ctxs ch.ctx none
        slots := put s.slots claim.slot after
        core := s.chunkQueue.head?
        chunkQueue := s.chunkQueue.tail }) ∧
    (∀ (p : Parsed) (c : Fin 8), after.state = .signed → after.parsed = some p →
      after.cls = some c → after.segMap.countP id = p.segCount →
      ∃ t, exec .chunkDigested s = .next t ∧ s.SlotWins t claim.slot after c ∧
        State.OrdersFollow { s with ctxs := put s.ctxs ch.ctx none } t 0x003
          [(.classDoneLate, none), (.settledOut, none)] ∧
        t.core = (s.chunksLeft t).head? ∧ t.chunkQueue = (s.chunksLeft t).tail ∧
        t.ctxs[ch.ctx] = none)

/-- A segment that does not match (R22, R52, R53, R54): the slot is rejected SEG_MISMATCH with both digests'
first bytes, its contexts are IDLE, its chunks and waiting job are gone, and SLOT_DONE and FAULT are set. Its
class stays as it was unless this exhausts it: PENDING with three attempts and no other live slot, it is
DECLINED if OPTIONAL and FAILED if not, with CLASS_CHANGE, and the lines follow (R111, R112, R118). Rejected
slots have their work released and their faults stored in order (R18, R159). Where no line is left HELD the
part settles (R120, R121). Each link is as it was but for the flags that the event posts, and a parked WAIT
that these answer (R161, R166). -/
def Obligations.SegmentMismatches : Prop :=
  ∀ (s : State) (ch : Chunk) (claim : Claim) (c : Fin 8), s.AtRest → s.core = some ch →
    s.ctxs[ch.ctx] = some claim → claim.slot = ch.slot → claim.gen = ch.gen →
    claim.draining = true → claim.pendingChunks = 1 →
    (s.slots[claim.slot].state = .checking ∨ s.slots[claim.slot].state = .signed) →
    s.slots[claim.slot].gen = claim.gen → s.slots[claim.slot].cls = some c →
    let i := claim.slot
    let expected := slice s.slots[i].buffer (48 + 32 * claim.seg) 32
    let computed := sha256 (claim.folded ++ ch.data)
    let left := s.chunkQueue.filter fun e => !(e.slot == i && e.gen == s.slots[i].gen)
    let faults := storeFault s.faults
      { stamp := s.bootClock, code := .segMismatch, link := s.slots[i].owner, slot := some i,
        cls := some c, seg := some (byteOf claim.seg), key := none,
        detail := padTo 8 (padTo 4 expected ++ padTo 4 computed) }
    computed ≠ expected →
    (¬s.Exhausts (fun j => j = i) c →
      exec .chunkDigested s = .next (State.flagged
        { s with
          ctxs := tabulate fun y =>
            match (put s.ctxs ch.ctx none)[y] with
            | some d => if d.slot = i then none else some d
            | none => none
          chunkQueue := left.tail
          core := left.head?
          jobs := s.jobs.filter fun j => j != .manifest i s.slots[i].gen
          slots := put s.slots i
            { s.slots[i] with state := .rejected, reason := some .segMismatch, openCtxs := [] }
          faults := faults }
        0x081)) ∧
    (s.Exhausts (fun j => j = i) c →
      ∃ t, exec .chunkDigested s = .next t ∧
        s.RejectsAll t (fun j => j = i) .segMismatch ∧
        State.OrdersFollow { s with faults := faults } t 0 [(.settledOut, none)] ∧
        t.core = (s.chunksLeft t).head? ∧ t.chunkQueue = (s.chunksLeft t).tail)

/-! ### The signature unit -/

/-- MANIFEST_JOB_END (R63, R64, R20, R4): a good answer makes a CHECKING slot of the job's generation with
segments unmatched SIGNED; a bad one rejects it BAD_SIGNATURE; a report for a slot no longer live, or of
another generation, changes no slot. In the same event the unit starts the oldest job that waits (R60), or is
idle, less the jobs that the event's own rejections remove (R65): that SETTLED_OUT is among these, the part
settling before the unit takes its next job, is the model's choice (assumption 23). Waiting jobs whose keys
read REVOKED are KeyRevokedAtStart's. A rejection that exhausts its class closes it in the same event, and the
lines follow (R111, R112, R118). Rejected slots have their work released and their faults stored in order
(R18, R159). Where no line is left HELD the part settles (R120, R121). Each link is as it was but for the
flags that the event posts, and a parked WAIT that these answer (R161, R166). -/
def Obligations.ManifestJobReports : Prop :=
  ∀ (s : State) (i : Fin 12) (gen : Byte) (message key sig : List Byte) (next : Option ActiveJob)
    (rest : List Job), s.AtRest →
    s.active = some (.manifest i gen message key sig) → s.StartsNext next rest →
    ((s.slots[i].live = false ∨ s.slots[i].gen ≠ gen) →
      exec .manifestJobEnd s = .next { s with active := next, jobs := rest }) ∧
    (∀ p, s.slots[i].state = .checking → s.slots[i].gen = gen → s.slots[i].parsed = some p →
      signatureGood (sha256 message) key sig = true →
      s.slots[i].segMap.countP id ≠ p.segCount →
      exec .manifestJobEnd s = .next { s with
        active := next, jobs := rest
        slots := put s.slots i { s.slots[i] with state := .signed, sig := .passed } }) ∧
    (∀ (p : Parsed) (c : Fin 8), s.slots[i].state = .checking → s.slots[i].gen = gen →
      s.slots[i].parsed = some p → s.slots[i].cls = some c → s.Exhausts (fun j => j = i) c →
      signatureGood (sha256 message) key sig = false → s.JobsCanStart →
      ∃ t, exec .manifestJobEnd s = .next t ∧
        let s' : State := { s with
          active := none
          slots := put s.slots i { s.slots[i] with sig := .failed } }
        s'.RejectsAll t (fun j => j = i) .badSignature ∧
        s'.UnitGoesOn t 0 [(.badSignature, some p.key), (.settledOut, none)] ∧
        t.chunkQueue = s.chunksLeft t ∧ t.core = s.core) ∧
    (∀ (p : Parsed) (c : Fin 8), s.slots[i].state = .checking → s.slots[i].gen = gen →
      s.slots[i].parsed = some p → s.slots[i].cls = some c → ¬s.Exhausts (fun j => j = i) c →
      signatureGood (sha256 message) key sig = false →
      s.jobs.head? ≠ some (.manifest i gen) →
      exec .manifestJobEnd s = .next (State.flagged
        { s with
          active := next
          jobs := rest.filter fun j => j != .manifest i gen
          ctxs := tabulate fun y =>
            match s.ctxs[y] with
            | some d => if d.slot = i then none else some d
            | none => none
          chunkQueue := s.chunkQueue.filter fun e => !(e.slot == i && e.gen == gen)
          slots := put s.slots i
            { s.slots[i] with state := .rejected, reason := some .badSignature, sig := .failed,
                              openCtxs := [] }
          faults := storeFault s.faults
            { stamp := s.bootClock, code := .badSignature, link := s.slots[i].owner, slot := some i,
              cls := some c, seg := none, key := some p.key, detail := List.replicate 8 0 } }
        0x081))

/-- A slot that enters VERIFIED by its signature (R19, R20, R110, R118): its class is VERIFIED with it, the
class's other live slots are rejected CLASS_DONE_LATE, the lines follow, with the verdict, the stopped timer
and SETTLED_OUT where no line is left HELD (R120, R121), and SLOT_DONE and CLASS_CHANGE are set on both links.
The work of every slot rejected is released (R18), and their faults are stored in ascending slot index, the
CLASS_DONE_LATE order's first (R159). The unit then starts the oldest job that still waits (R60, R65): that it
does so after the part has settled, and so takes no job that SETTLED_OUT removed, is the model's choice
(assumption 23). Waiting jobs whose keys read REVOKED are KeyRevokedAtStart's. Each link is as it was but for
the flags that the event posts, and a parked WAIT that these answer (R161, R166). -/
def Obligations.SlotVerifiedWinsClass : Prop :=
  ∀ (s : State) (i : Fin 12) (c : Fin 8) (p : Parsed) (gen : Byte) (message key sig : List Byte),
    s.active = some (.manifest i gen message key sig) → s.JobsCanStart →
    s.slots[i].state = .checking → s.slots[i].gen = gen → s.slots[i].parsed = some p →
    s.slots[i].cls = some c → s.slots[i].segMap.countP id = p.segCount →
    signatureGood (sha256 message) key sig = true →
    ∃ t, exec .manifestJobEnd s = .next t ∧ s.SlotWins t i s.slots[i] c ∧
      State.UnitGoesOn { s with active := none } t 0x003
        [(.classDoneLate, none), (.settledOut, none)] ∧
      t.chunkQueue = s.chunksLeft t ∧ t.core = s.core

/-- Manifest jobs whose keys read REVOKED at their start (R62, R20, R60), behind the end of any job: a
manifest job whose report is discarded (R4), passes or fails (R64), or a revoke job (R68, R69). Each ends at
once, and the first later job that the event leaves waiting is started, all in one event. Their slots are
rejected KEY_REVOKED, their signature outcomes as they were, and their faults stored in job order, after those
of the report. Class table and lines are evaluated once, as the whole event leaves them (R106, R112, R118):
every class that the event exhausts is closed, and a slot is SETTLED_OUT only where the part then settles,
which may remove later jobs (R65). That these jobs end before exhaustion and settling, so that their slots are
KEY_REVOKED and not SETTLED_OUT, and that the next job starts after settling, is the model's choice
(assumption 23). Rejected slots have their work released and their faults stored in order (R18, R159). Where
no line is left HELD the part settles (R120, R121). Each link is as it was but for the flags that the event
posts, and a parked WAIT that these answer (R161, R166). -/
def Obligations.KeyRevokedAtStart : Prop :=
  ∀ (s : State) (named : List (Fin 12)) (later : List Job),
    let revoked (faults : Vector FaultRecord 4) := named.foldl (fun v n => storeFault v
      { stamp := s.bootClock, code := .keyRevoked, link := s.slots[n].owner, slot := some n,
        cls := s.slots[n].cls, seg := none, key := s.slots[n].parsed.map fun p => p.key,
        detail := List.replicate 8 0 }) faults
    let goesOn (command : Instr) (first : State) (also : Fin 12 → Prop) (reason : FaultCode)
        (won : Prop) (own : Half) : Prop :=
      ∃ t, exec command s = .next t ∧
        first.RejectsFor t (fun n => n ∈ named ∨ also n)
          (fun n => if n ∈ named then .keyRevoked else reason) won ∧
        State.UnitGoesOn { first with active := none, jobs := later, faults := revoked first.faults }
          t own [(.settledOut, none)] ∧
        t.chunkQueue = first.chunksLeft t ∧ t.core = s.core
    (∀ (i : Fin 12) (gen : Byte) (message key sig : List Byte),
      s.active = some (.manifest i gen message key sig) →
      let x := s.slots[i]
      ((x.live = false ∨ x.gen ≠ gen) → s.EndAtStart s.jobs named later →
        goesOn .manifestJobEnd s (fun _ => False) .keyRevoked False 0) ∧
      (∀ p : Parsed, x.state = .checking → x.gen = gen → x.parsed = some p →
        Job.manifest i gen ∉ s.jobs →
        (signatureGood (sha256 message) key sig = true → x.segMap.countP id ≠ p.segCount →
          s.EndAtStart s.jobs named later →
          goesOn .manifestJobEnd
            { s with slots := put s.slots i { x with state := .signed, sig := .passed } }
            (fun _ => False) .keyRevoked False 0) ∧
        (∀ c : Fin 8, signatureGood (sha256 message) key sig = true →
          x.segMap.countP id = p.segCount → x.cls = some c →
          let late (n : Fin 12) : Bool := n != i && s.slots[n].live && s.slots[n].cls == some c
          s.EndAtStart
            (s.jobs.filter fun j =>
              match j with
              | .manifest n g => !(late n && g == s.slots[n].gen)
              | .revoke .. => true)
            named later →
          goesOn .manifestJobEnd
            { s with
              slots := put s.slots i { x with state := .verified, sig := .passed }
              classes := put s.classes c
                { s.classes[c] with state := .verified, verifiedSlot := some i }
              faults := ((List.finRange 12).filter late).foldl (fun v n => storeFault v
                { stamp := s.bootClock, code := .classDoneLate, link := s.slots[n].owner,
                  slot := some n, cls := some c, seg := none, key := none,
                  detail := List.replicate 8 0 }) s.faults }
            (fun n => late n = true) .classDoneLate True 0x003) ∧
        (signatureGood (sha256 message) key sig = false → s.EndAtStart s.jobs named later →
          goesOn .manifestJobEnd
            { s with
              slots := put s.slots i { x with sig := .failed }
              faults := storeFault s.faults
                { stamp := s.bootClock, code := .badSignature, link := x.owner, slot := some i,
                  cls := x.cls, seg := none, key := some p.key, detail := List.replicate 8 0 } }
            (fun n => n = i) .badSignature False 0))) ∧
    (∀ (l : Link) (target : Fin 10) (r : Fin 2) (message key sig : List Byte),
      s.active = some (.revoke l target r message key sig) → s.EndAtStart s.jobs named later →
      (signatureGood (sha256 message) key sig = true →
        goesOn .revokeJobEnd
          { s with fuseOp := some { kind := .revoke target s.fuses.revoke, burnList := [target.val],
                                    position := 0, link := l } }
          (fun _ => False) .keyRevoked False 0) ∧
      (signatureGood (sha256 message) key sig = false →
        goesOn .revokeJobEnd
          { s with
            reserved := false, revoking := none
            faults := storeFault s.faults
              { stamp := s.bootClock, code := .revokeBadSignature, link := some l, slot := none,
                cls := none, seg := none, key := some target,
                detail := [byteOf r, 0, 0, 0, 0, 0, 0, 0] } }
          (fun _ => False) .keyRevoked False 0x0C0))

/-- REVOKE_JOB_END (R68, R69): a good answer hands the target's revoke fuse to the fuse controller; a
bad one releases the reservation, records REVOKE_BAD_SIGNATURE with the signer, and sets FAULT and
FUSE_DONE. In the same event the unit starts the oldest job that waits (R60), or is idle. -/
def Obligations.RevokeJobEnds : Prop :=
  ∀ (s : State) (l : Link) (target : Fin 10) (r : Fin 2) (message key sig : List Byte)
    (next : Option ActiveJob) (rest : List Job), s.AtRest →
    s.active = some (.revoke l target r message key sig) → s.StartsNext next rest →
    (signatureGood (sha256 message) key sig = true →
      exec .revokeJobEnd s = .next { s with
        active := next, jobs := rest
        fuseOp := some { kind := .revoke target s.fuses.revoke, burnList := [target.val],
                         position := 0, link := l } }) ∧
    (signatureGood (sha256 message) key sig = false →
      exec .revokeJobEnd s = .next (State.flagged
        { s with
          active := next, jobs := rest, reserved := false, revoking := none
          faults := storeFault s.faults
            { stamp := s.bootClock, code := .revokeBadSignature, link := some l, slot := none,
              cls := none, seg := none, key := some target,
              detail := [byteOf r, 0, 0, 0, 0, 0, 0, 0] } }
        0x0C0))

/-! ### The fuse controller -/

/-- A floor burn (R92, R94, R98, R93): the read-back is good when the row then reads a thermometer of
height f; fuse f then counts and the list goes on, or the operation ends with FUSE_DONE. Otherwise, fuse
f reading 0 or a stray fuse reading 1, it stops with FUSE_FAULT carrying f, the floor as it then reads
and T, and the row keeps what it reads. That the read-back's outcome comes with the command is the
model's choice (assumption 10). -/
def Obligations.FloorBurnCompletes : Prop :=
  ∀ (s : State) (i : Fin 12) (c : Fin 8) (T n f : Nat) (list : List Nat) (l : Link) (took : Bool)
    (strays : List Nat) (after : BitVec 63), s.AtRest →
    s.fuseOp = some { kind := .floor i c T, burnList := list, position := n, link := l } →
    list[n]? = some f → 1 ≤ f → f ≤ 63 → RowAfter s.fuses.floors[c] after 1 f took strays →
    let fuses : Fuses := { s.fuses with floors := put s.fuses.floors c after }
    let good := ∀ k : Nat, k < 63 → after.getLsbD k = decide (k < f)
    (good → n + 1 < list.length →
      exec (.fuseBurnComplete took strays) s = .next { s with
        fuses := fuses
        fuseOp := some { kind := .floor i c T, burnList := list, position := n + 1, link := l } }) ∧
    (good → n + 1 = list.length →
      exec (.fuseBurnComplete took strays) s =
        .next (State.flagged { s with fuses := fuses, fuseOp := none } 0x040)) ∧
    (¬good → exec (.fuseBurnComplete took strays) s = .next (State.flagged
      { s with
        fuses := fuses
        fuseOp := none
        faults := storeFault s.faults
          { stamp := s.bootClock, code := .fuseFault, link := some l, slot := some i, cls := some c,
            seg := none, key := none,
            detail := [byteOf f, byteOf ((List.range 63).countP fun k => after.getLsbD k), byteOf T,
              0, 0, 0, 0, 0] } }
      0x0C0))

/-- The burn of a revocation (R81, R82, R93, R94, R100): the read-back is good when the row reads as it did
with the target's fuse burnt alone. Whenever the target's fuse then reads 1 the revocation takes effect: the
reservation and the pending record are cleared, every CHECKING or SIGNED slot whose key is the target is
rejected KEY_REVOKED, every other slot stays as it was unless the part settles in the event, which rejects
those still live SETTLED_OUT, and FUSE_DONE is set. A class that the order leaves with three attempts and no
live slot is exhausted, once for the event, and the lines follow (R111, R112, R118). The work of rejected
slots is released (R18), and their faults are stored in ascending slot index after a FUSE_FAULT (R159). A bad
read-back records FUSE_FAULT with the target, and where the fuse reads 0 the key and every slot stay as they
were (assumption 10). Where no line is left HELD the part settles (R120, R121). Each link is as it was but for
the flags that the event posts, and a parked WAIT that these answer (R161, R166). -/
def Obligations.RevocationTakesEffect : Prop :=
  ∀ (s : State) (target : Fin 10) (before after : BitVec 10) (l : Link) (took : Bool)
    (strays : List Nat),
    s.fuseOp = some { kind := .revoke target before, burnList := [target.val],
                      position := 0, link := l } →
    RowAfter s.fuses.revoke after 0 target took strays →
    let good := after = before ||| BitVec.twoPow 10 target
    let fault (bit : Byte) : FaultRecord :=
      { stamp := s.bootClock, code := .fuseFault, link := some l, slot := none, cls := none,
        seg := none, key := some target, detail := [bit, 0, 0, 0, 0, 0, 0, 0] }
    (after.getLsbD target = true →
      ∃ t, exec (.fuseBurnComplete took strays) s = .next t ∧
        t.keyState target = .revoked ∧
        s.RejectsAll t (fun i => (s.slots[i].state = .checking ∨ s.slots[i].state = .signed) ∧
          ∃ p, s.slots[i].parsed = some p ∧ p.key = target) .keyRevoked ∧
        State.OrdersFollow
          { s with
            fuses := { s.fuses with revoke := after }
            fuseOp := none, reserved := false, revoking := none
            faults := if after = before ||| BitVec.twoPow 10 target then s.faults
              else storeFault s.faults (fault 1) }
          t (if good then 0x040 else 0x0C0) [(.keyRevoked, some target), (.settledOut, none)] ∧
        t.chunkQueue = s.chunksLeft t ∧ t.core = s.core ∧
        (∀ k : Link, (t.link k).flags.getLsbD 6 = true) ∧
        (¬good → (∀ k : Link, (t.link k).flags.getLsbD 7 = true) ∧
          ∀ n : Fin 4, n ≠ 0 → s.faults[n].code = .empty →
            (∀ m : Fin 4, m ≠ 0 → m < n → s.faults[m].code ≠ .empty) → t.faults[n] = fault 1)) ∧
    (after.getLsbD target = false → s.AtRest →
      exec (.fuseBurnComplete took strays) s = .next (State.flagged
        { s with
          fuses := { s.fuses with revoke := after }
          fuseOp := none, reserved := false, revoking := none
          faults := storeFault s.faults (fault 0) }
        0x0C0))

/-- The burns of an enrolment and of a close (R86, R87, R92, R93, R94, R102, R148). A read-back is good when
no fuse of the row is wrong: every fuse burnt so far reads 1, every fuse outside the list 0, and the list's
last fuse 0 before its own burn. A good one that is not the last goes on. The last good one sets FUSE_DONE and
leaves the entry ACTIVE, or takes the whole warm reset with cause PROVISION_CLOSE (R150, R153, R154), in which
a Link M window that was open is ignored up to its end (R173, assumption 26). A bad one stops with FUSE_FAULT:
for an enrolment with the burn's ordinal and the first wrong fuse, for a close with the fuse under burn
(assumption 15), and a close whose closed fuse then reads 1 takes the warm reset (assumption 10). -/
def Obligations.EnrolmentAndCloseEnd : Prop :=
  ∀ (s : State) (list : List Nat) (n f : Nat) (l : Link) (took : Bool) (strays : List Nat), s.AtRest →
    list[n]? = some f →
    let command := Instr.fuseBurnComplete took strays
    (∀ (e : Fin 8) (after : BitVec 585),
      s.fuseOp = some { kind := .enroll e, burnList := list, position := n, link := l } →
      RowAfter s.fuses.entries[e] after 0 f took strays →
      let fuses : Fuses := { s.fuses with entries := put s.fuses.entries e after }
      let wrong (k : Nat) := k < 585 ∧ FuseWrong after list n 584 k
      ((∀ k, ¬wrong k) → n + 1 < list.length →
        exec command s = .next { s with
          fuses := fuses
          fuseOp := some { kind := .enroll e, burnList := list, position := n + 1, link := l } }) ∧
      ((∀ k, ¬wrong k) → n + 1 = list.length →
        exec command s = .next (State.flagged { s with fuses := fuses, fuseOp := none } 0x040) ∧
        (∀ k, k < 585 → after.getLsbD k = decide (k ∈ list)) ∧
        (584 ∈ list → s.fuses.revoke.getLsbD (e.val + 2) = false →
          State.keyState { s with fuses := fuses } (keyOfEntry e) = .active)) ∧
      (∀ k, wrong k → (∀ m, m < k → ¬wrong m) →
        exec command s = .next (State.flagged
          { s with
            fuses := fuses, fuseOp := none
            faults := storeFault s.faults
              { stamp := s.bootClock, code := .fuseFault, link := some l, slot := none, cls := none,
                seg := none, key := some (keyOfEntry e),
                detail := leBytes 2 (n + 1) ++ leBytes 2 k ++ [0, 0, 0, 0] } }
          0x0C0))) ∧
    (∀ after : BitVec 281,
      s.fuseOp = some { kind := .close, burnList := list, position := n, link := l } →
      RowAfter s.fuses.closing after 0 f took strays →
      let fuses : Fuses := { s.fuses with closing := after }
      let wrong (k : Nat) := k < 281 ∧ FuseWrong after list n 280 k
      let faulted := storeFault s.faults
        { stamp := s.bootClock, code := .fuseFault, link := some l, slot := none, cls := none,
          seg := none, key := none, detail := leBytes 2 f ++ [0, 0, 0, 0, 0, 0] }
      let reset (faults : Vector FaultRecord 4) : Prop :=
        exec command s = .next { State.reset with
          fuses := fuses, rom := s.rom, freeCount := s.freeCount, pending := s.pending
          resetNLow := s.resetNLow, supplyLow := s.supplyLow, selfTest := !s.deaf
          spi := s.spi, windowIgnored := decide (s.spi ≠ .shut)
          bootClock := s.bootClock, faults := faults
          cause := { last := .provisionClose, flags := s.cause.flags ||| 8 }
          failedCount := if s.verdict = .printReady then s.failedCount
            else min 255 (s.failedCount + 1) }
      ((∀ k, ¬wrong k) → n + 1 < list.length →
        exec command s = .next { s with
          fuses := fuses
          fuseOp := some { kind := .close, burnList := list, position := n + 1, link := l } }) ∧
      ((∀ k, ¬wrong k) → n + 1 = list.length → reset s.faults) ∧
      ((∃ k, wrong k) → after.getLsbD 280 = false →
        exec command s = .next (State.flagged
          { s with fuses := fuses, fuseOp := none, faults := faulted } 0x0C0)) ∧
      ((∃ k, wrong k) → after.getLsbD 280 = true → reset faulted))

/-! ### Start-up -/

/-- The self-test's steps in order (R75, R103, R104, R139, R140): the root table's digest, the floor
rows' thermometers in class order, then, on a closed part, the policy block's CRC and ranges. The first
that fails gives its fault record: the first bytes of both digests; the class, the count of its row's
burnt fuses, the lowest unburnt and the highest burnt; or the computed and the stored CRC; and no other
optional field (Table 11-13). -/
def Obligations.SelfTestSteps : Prop :=
  ∀ s : State,
    let table := s.rom.roots[0].key.toList ++ s.rom.roots[0].label.toList ++
      s.rom.roots[1].key.toList ++ s.rom.roots[1].label.toList
    let romGood := sha256 table = s.rom.reference.toList
    let steps (c : Fin 8) : Prop :=
      ∀ j k : Nat, j < k → s.fuses.floors[c].getLsbD k = true → s.fuses.floors[c].getLsbD j = true
    let block := s.policyBlock
    let policyGood := (crc16 (block.take 33)).toNat = leNat (slice block 33 2) ∧
      (∀ c : Fin 8, (byteAt block c).toNat ≤ 2 ∧ (byteAt block (8 + c)).toNat ≤ 3) ∧
      (byteAt block 29).toNat ≤ 7 ∧ (byteAt block 30).toNat ≤ 3 ∧ (byteAt block 31).toNat ≤ 15 ∧
      1 ≤ (byteAt block 32).toNat ∧ (byteAt block 32).toNat ≤ 16
    let fault (code : FaultCode) (detail : List Byte) : FaultRecord :=
      { FaultRecord.blank with code := code, detail := detail }
    (¬romGood → s.selfTestFault =
      some (fault .selftestRom ((sha256 table).take 4 ++ s.rom.reference.toList.take 4))) ∧
    (∀ c, romGood → ¬steps c → (∀ d, d < c → steps d) →
      ∃ lo hi : Fin 63,
        s.fuses.floors[c].getLsbD lo = false ∧ (∀ k, k < lo.val → s.fuses.floors[c].getLsbD k = true) ∧
        s.fuses.floors[c].getLsbD hi = true ∧ (∀ k, hi.val < k → s.fuses.floors[c].getLsbD k = false) ∧
        s.selfTestFault = some { fault .selftestFuse
          [byteOf ((List.range 63).countP fun k => s.fuses.floors[c].getLsbD k),
            byteOf (lo.val + 1), byteOf (hi.val + 1), 0, 0, 0, 0, 0] with cls := some c }) ∧
    (romGood → (∀ c, steps c) → s.fuses.closing.getLsbD 280 = true → ¬policyGood →
      s.selfTestFault = some (fault .selftestPolicy
        (leBytes 2 (crc16 (block.take 33)).toNat ++ slice block 33 2 ++ [0, 0, 0, 0]))) ∧
    (romGood → (∀ c, steps c) → (s.fuses.closing.getLsbD 280 = true → policyGood) →
      s.selfTestFault = none)

/-- SELFTEST_COMPLETE with a failed step (R140, R124): the fault is recorded with its stamp and FAULT
set, the mode is FAILSAFE, the verdict BLOCKED and every line LOCKED. With a pass of an unclosed part
(R141) the mode is PROVISION and no event is posted. -/
def Obligations.SelfTestFailsOrProvisions : Prop :=
  ∀ s : State, s.AtRest → s.selfTest = true →
    (∀ r, s.selfTestFault = some r →
      exec .selftestComplete s = .next (State.flagged
        { s with
          selfTest := false, mode := .failsafe, verdict := .blocked
          lines := tabulate fun i => { s.lines[i] with state := .locked }
          faults := storeFault s.faults { r with stamp := s.bootClock } }
        0x080)) ∧
    (s.selfTestFault = none → s.fuses.closing.getLsbD 280 = false →
      exec .selftestComplete s = .next { s with selfTest := false, mode := .provision })

/-- SELFTEST_COMPLETE with a pass of a closed part: the policy is in force and classes and lines are
loaded. With the failed-attempt count at most MAX_RETRY and some line in use (R141, R105, R115, R128)
the mode is VERIFY and the window runs from R, WINDOW_LOW set where R is 0. With
every line DISABLED the part settles BLOCKED in that same event, its timer stopped (R119, R120, R121). Over
the limit (R142, R123)
RETRY_LIMIT is recorded with the count and MAX_RETRY, every class in use is FAILED and every line in
use LOCKED, and the part is SETTLED BLOCKED without a window. The microseconds to the next tick are the
model's (assumption 9). -/
def Obligations.ClosedPartStarts : Prop :=
  ∀ s : State, s.AtRest → s.selfTest = true → s.selfTestFault = none →
    s.fuses.closing.getLsbD 280 = true →
    let p := policyOfBytes (s.policyBlock.take 33)
    let loaded (used : ClassState) : Vector ClassRec 8 := tabulate fun c =>
      { disposition := p.dispositions[c], linkMask := p.linkMasks[c], attempts := 0,
        verifiedSlot := none,
        state := match p.dispositions[c] with | .unused => .unused | _ => used }
    let masked (used : LineState) : Vector LineRec 6 := tabulate fun i =>
      { need := p.need[i], soft := p.soft[i],
        state := if p.need[i] = 0 ∧ p.soft[i] = 0 then .disabled else used }
    (s.failedCount ≤ p.maxRetry.toNat → (∃ i : Fin 6, p.need[i] ≠ 0 ∨ p.soft[i] ≠ 0) →
      exec .selftestComplete s = .next (State.flagged
        { s with
          selfTest := false, mode := .verify, inForce := some p
          classes := loaded .pending
          lines := masked .held
          window :=
            { count := p.reload.toNat, reload := p.reload.toNat, prescale := p.prescale.toNat,
              extMax := p.extMax.toNat, extUsed := 0, running := true,
              toTick := some (2 ^ p.prescale.toNat * 1000) } }
        (if p.reload = 0 then 0x010 else 0))) ∧
    (s.failedCount ≤ p.maxRetry.toNat → (∀ i : Fin 6, p.need[i] = 0 ∧ p.soft[i] = 0) →
      (∀ i : Fin 12, s.slots[i].live = false) →
      exec .selftestComplete s = .next (State.flagged
        { s with
          selfTest := false, mode := .settled, verdict := .blocked, inForce := some p
          classes := loaded .pending
          lines := masked .disabled
          window :=
            { count := p.reload.toNat, reload := p.reload.toNat, prescale := p.prescale.toNat,
              extMax := p.extMax.toNat, extUsed := 0, running := false, toTick := none } }
        (if p.reload = 0 then 0x018 else 0x008))) ∧
    (p.maxRetry.toNat < s.failedCount →
      exec .selftestComplete s = .next (State.flagged
        { s with
          selfTest := false, mode := .settled, verdict := .blocked, inForce := some p
          classes := loaded .failed
          lines := masked .locked
          faults := storeFault s.faults
            { stamp := s.bootClock, code := .retryLimit, link := none, slot := none, cls := none,
              seg := none, key := none,
              detail := [byteOf s.failedCount, p.maxRetry, 0, 0, 0, 0, 0, 0] } }
        0x088))

/-! ### Time -/

/-- Ticks and the boot clock. BOOT_WINDOW_TICK at the end of an interval with the count above 0 (R129,
R130): the count falls by one and the interval restarts; WINDOW_LOW is set on both links when the count
becomes R div 4. Where no tick is due, not running or its interval not over, nothing changes (R133).
BOOT_CLOCK_MICROSECOND (R155): the clock rises by one and wraps after 2^48 - 1. The time to the next
tick, which falls with it, and that a tick due is taken before the microsecond, are the model's own
choice (assumption 9). -/
def Obligations.TimeBaseAdvances : Prop :=
  ∀ s : State, s.AtRest →
    let due := s.window.running = true ∧ s.window.toTick = some 0
    (due → 0 < s.window.count →
      exec .bootWindowTick s = .next (State.flagged
        { s with window := { s.window with
            count := s.window.count - 1, toTick := some (2 ^ s.window.prescale * 1000) } }
        (if s.window.count - 1 = s.window.reload / 4 then 0x010 else 0))) ∧
    (¬due → exec .bootWindowTick s = .next s ∧ exec .bootWindowExpiry s = .next s) ∧
    (s.supplyLow = false → ¬due →
      exec .bootClockMicrosecond s = .next { s with
        bootClock := BitVec.ofNat 48 ((s.bootClock.toNat + 1) % 2 ^ 48)
        window := { s.window with toTick := s.window.toTick.map fun n => n - 1 } }) ∧
    (s.supplyLow = false → due →
      ∃ t, exec .bootWindowTick s = .next t ∧
        exec .bootClockMicrosecond s = exec .bootClockMicrosecond t)

/-- BOOT_WINDOW_EXPIRY (R134, R135), due in VERIFY at count 0 while a line is HELD: the timer stops at count
0, every live slot is rejected WINDOW_EXPIRED and no other slot is touched, PENDING classes are FAILED and
HELD lines LOCKED, the others keeping their states, and the part is SETTLED, DEGRADED if ENG_EN is RELEASED
and BLOCKED otherwise, the failed-attempt count kept. The window fault takes the earliest free first-fault
place, before those of the slots, which are stored in ascending slot index (R159); the work of the slots is
released (R18); WINDOW_EXPIRED, LINE_CHANGE, SETTLED and FAULT are set, SLOT_DONE where a slot was live and
CLASS_CHANGE where a class was PENDING. The microseconds to the next tick are the model's (assumption 9).
Where no line is left HELD the part settles (R120, R121). Each link is as it was but for the flags that the
event posts, and a parked WAIT that these answer (R161, R166). -/
def Obligations.ExpirySettles : Prop :=
  ∀ s : State, s.mode = .verify → s.window.running = true → s.window.count = 0 →
    s.window.toTick = some 0 → (∃ i : Fin 6, s.lines[i].state = .held) →
    let expired : FaultRecord :=
      { stamp := s.bootClock, code := .windowExpired, link := none, slot := none, cls := none,
        seg := none, key := none,
        detail := [byteOf s.window.extUsed, byteOf s.window.reload, byteOf s.window.prescale,
          0, 0, 0, 0, 0] }
    ∃ t, exec .bootWindowExpiry s = .next t ∧ exec .bootWindowTick s = .next t ∧
      t.window = { s.window with running := false, toTick := none } ∧
      (∀ i : Fin 12, t.slots[i] =
        if s.slots[i].live then
          { s.slots[i] with state := .rejected, reason := some .windowExpired, openCtxs := [] }
        else s.slots[i]) ∧
      (∀ c : Fin 8, t.classes[c] =
        if s.classes[c].state = .pending then { s.classes[c] with state := .failed }
        else s.classes[c]) ∧
      (∀ i : Fin 6, t.lines[i] =
        if s.lines[i].state = .held then { s.lines[i] with state := .locked } else s.lines[i]) ∧
      t.mode = .settled ∧
      t.verdict = (if s.lines[0].state = .released then .degraded else .blocked) ∧
      t.failedCount = s.failedCount ∧
      (∀ n : Fin 4, n ≠ 0 → s.faults[n].code = .empty →
        (∀ m : Fin 4, m ≠ 0 → m < n → s.faults[m].code ≠ .empty) → t.faults[n] = expired) ∧
      State.OrdersFollow { s with faults := storeFault s.faults expired } t 0x0A0
        [(.windowExpired, none)] ∧
      t.chunkQueue = s.chunksLeft t ∧ t.core = s.core ∧
      (∀ k : Link, (t.link k).flags.getLsbD 5 = true ∧ (t.link k).flags.getLsbD 3 = true ∧
        (t.link k).flags.getLsbD 7 = true ∧ (t.link k).flags.getLsbD 2 = true ∧
        ((∃ c : Fin 8, s.classes[c].state = .pending) → (t.link k).flags.getLsbD 1 = true))

/-! ### Resets -/

/-- COLD_RESET (R149, R172, Table 9-4): every block at its cold reset value, the ROM, the level of RESET_N
and the queue kept. At power-on with RESET_N high the self-test runs; at a brown-out it waits. The fuses are
as they read unless a burn was under way: a burn that the reset interrupts (R95) leaves them as they were or
with the fuse under burn set, as a free value says (assumption 5). A Link M window that was open is ignored
up to its end (R173). The two causes, and what shows a window to be open, are the model's (assumptions 11,
26). -/
def Obligations.ColdResetClears : Prop :=
  ∀ (s : State) (cause : ColdCause),
    ∃ (fuses : Fuses) (count : Nat),
      (s.fuseOp = none → fuses = s.fuses ∧ count = s.freeCount) ∧
      (∀ op, s.fuseOp = some op →
        fuses = s.fuses ∨ fuses = burnFuse s.fuses op.kind (op.burnList.getD op.position 0)) ∧
      exec (.coldReset cause) s = .next { State.reset with
        fuses := fuses, rom := s.rom, freeCount := count, pending := s.pending
        resetNLow := s.resetNLow, supplyLow := decide (cause = .brownOut)
        spi := s.spi, windowIgnored := decide (s.spi ≠ .shut)
        selfTest := decide (cause = .powerOn ∧ s.resetNLow = false) }

/-- RESET_N_FALL (R150, R151, R153, R154): a warm reset with cause PIN that holds the part: the cold
values, but for the boot clock and the fault records kept, PIN recorded, and the failed-attempt count
raised, to at most 255, unless the verdict was PRINT_READY. A burn that the reset interrupts (R95)
leaves the fuses as they were or with the fuse under burn set, as a free value says (assumption 5), and
the controller idle and unreserved. A Link M window that was open is ignored up to its end (R173,
assumption 26). -/
def Obligations.ResetNFallWarmResets : Prop :=
  ∀ s : State, s.resetNLow = false → s.supplyLow = false →
    ∃ (fuses : Fuses) (count : Nat),
      (s.fuseOp = none → fuses = s.fuses ∧ count = s.freeCount) ∧
      (∀ op, s.fuseOp = some op →
        fuses = s.fuses ∨ fuses = burnFuse s.fuses op.kind (op.burnList.getD op.position 0)) ∧
      exec .resetNFall s = .next { State.reset with
        fuses := fuses, rom := s.rom, freeCount := count, pending := s.pending
        resetNLow := true, selfTest := false
        spi := s.spi, windowIgnored := decide (s.spi ≠ .shut)
        bootClock := s.bootClock, faults := s.faults
        cause := { last := .pin, flags := s.cause.flags ||| 2 }
        failedCount := if s.verdict = .printReady then s.failedCount
          else min 255 (s.failedCount + 1) }

/-- RESET_N_RISE and SUPPLY_RECOVERED (R149, R151): each ends its hold, and the self-test begins in the event
that ends the last; the supply's recovery leaves the cold reset values. Holding both levels is the model's
choice (assumption 8). A Link M window that is open then is ignored up to its end (R173): what shows it to be
open is the model's (assumption 26). -/
def Obligations.HoldsEnd : Prop :=
  ∀ s : State,
    (s.AtRest → s.resetNLow = true → s.supplyLow = false →
      exec .resetNRise s = .next (State.drive { s with resetNLow := false, selfTest := true })) ∧
    (s.AtRest → s.resetNLow = true → s.supplyLow = true →
      exec .resetNRise s = .next { s with resetNLow := false, selfTest := false }) ∧
    (s.fuseOp = none → s.supplyLow = true →
      exec .supplyRecovered s = .next { State.reset with
        fuses := s.fuses, rom := s.rom, freeCount := s.freeCount, pending := s.pending
        resetNLow := s.resetNLow, selfTest := !s.resetNLow
        spi := s.spi, windowIgnored := decide (s.spi ≠ .shut) })

/-! ### The links -/

/-- FRAME_HELD, and a request or any other frame that arrives on Link E (R152, R171, R178): behind an unsent
reply, behind a held frame or while a RESTART is pending the frame is held, up to two, in arrival order; a
third is discarded with LINK_ERROR on Link E alone. On Link M no frame is taken while a RESTART is pending:
over its unread reply the frame's SYNC takes the warm reset (R176), the frame is lost and so is the rest of
its window (R173); a burn that the reset interrupts (R95) leaves the fuse under burn set or not (assumption
5). -/
def Obligations.FramesAreHeld : Prop :=
  ∀ (s : State) (f : Frame), s.AtRest → s.deaf = false → f.payload.length ≤ 1038 →
    ((s.linkE.ordinary ≠ none ∨ s.linkE.held ≠ [] ∨ s.restartPending = true) →
      exec (.badKindFrame .e f) s = exec (.frameHeld f) s ∧
      (∀ k q, f = requestFrame k q → exec (requestCommand .e k q) s = exec (.frameHeld f) s) ∧
      (s.linkE.held.length < 2 →
        exec (.frameHeld f) s = .next { s with
          linkE := { s.linkE with rx := .hunting, held := s.linkE.held ++ [f] } }) ∧
      (2 ≤ s.linkE.held.length →
        exec (.frameHeld f) s = .next (State.drive { s with
          linkE := ({ s.linkE with rx := .hunting } : LinkState).flagged 0x100 }))) ∧
    (s.restartPending = true → s.linkM.ordinary ≠ none → s.windowLost = false →
      ∃ (fuses : Fuses) (count : Nat), s.BurnStops fuses count ∧
        exec (.badKindFrame .m f) s = .next (s.restarted .spent fuses count) ∧
        ∀ k q, f = requestFrame k q →
          exec (requestCommand .m k q) s = .next (s.restarted .spent fuses count)) ∧
    (s.restartPending = true → s.linkM.ordinary = none → s.windowLost = false →
      let lost : State := State.drive { s with
        spi := .spent, windowIgnored := false, linkM := { s.linkM with rx := .hunting } }
      exec (.badKindFrame .m f) s = .next lost ∧
      ∀ k q, f = requestFrame k q → exec (requestCommand .m k q) s = .next lost)

/-- FRAME_ABANDONED, FRAME_GAP_TIMEOUT and STOP_BIT_LOW_WHILE_HUNTING (R174, R177): LINK_ERROR on
that link alone, the assembly HUNTING, and no reply made. On Link E a frame is abandoned while it is being
assembled, and a stop bit that reads low while HUNTING sets LINK_ERROR and leaves the assembly HUNTING; that
the rows change nothing in the other state of the assembly is the model's choice (assumption 6). On Link M the
row of an abandoned frame implies its SYNC where this is not yet complete: the model's choice too (assumptions
14, 26). On an empty queue RXD may bring a byte, as a free value says (assumption 28): while HUNTING 0xA5
begins a Link E frame, and any other byte is discarded and sets no flag (R177). -/
def Obligations.BrokenFramesSetLinkError : Prop :=
  ∀ s : State, s.AtRest → s.deaf = false →
    let broken (x : LinkState) : LinkState := ({ x with rx := .hunting } : LinkState).flagged 0x100
    (∀ cause : AbandonCause,
      (cause = .stopBitLow ∨
        ∃ len : Half, (len.toNat < 2 ∨ 1040 < len.toNat) ∧ cause = .lenOutOfRange len) →
      exec (.frameAbandoned .e cause) s = .next
        (if s.linkE.rx = .hunting then s else State.drive { s with linkE := broken s.linkE })) ∧
    exec .frameGapTimeout s = .next
      (if s.linkE.rx = .hunting then s else State.drive { s with linkE := broken s.linkE }) ∧
    exec .stopBitLowWhileHunting s = .next
      (if s.linkE.rx = .hunting then State.drive { s with linkE := broken s.linkE } else s) ∧
    (s.pending = [] → ∃ t, step s = .next t ∧ t.linkE =
      if s.linkE.rx = .hunting ∧ Config.linkEByte s.freeCount = some 0xA5 then
        { s.linkE with rx := .assembling [0xA5] }
      else s.linkE) ∧
    (∀ cause : AbandonCause, s.linkM.ordinary = none → s.restartPending = false →
      s.windowLost = false →
      (cause = .windowEnded ∨
        ∃ len : Half, (len.toNat < 2 ∨ 1040 < len.toNat) ∧ cause = .lenOutOfRange len) →
      exec (.frameAbandoned .m cause) s = .next (State.drive { s with
        spi := if cause = .windowEnded then .shut else .spent
        windowIgnored := false
        linkM := broken s.linkM }))

/-- REPLY_LEFT (R171, R175, R179): the reply being sent leaves its entry and the other entry's, if ready, is
next. On Link M nothing more comes of the window it was read in, which is the open one where that offers the
reply and a later one where not (assumption 26), and while a frame is being assembled none is read (assumption
6). An ordinary reply there with a RESTART pending takes the whole warm reset, with cause RESTART (R150, R152
to R154); a burn that it interrupts (R95) leaves the fuse under burn set or not (assumption 5), and the rest
of the window is ignored (R173). On Link E the oldest held frame, whatever it is, is taken in the same event,
as a frame that arrives then would be, and with a RESTART pending none is. A second held frame, where the
first was a WAIT that left the entry empty, is taken after it in an event of its own: the model's choice
(assumption 25). -/
def Obligations.RepliesLeave : Prop :=
  ∀ s : State, s.AtRest → s.deaf = false →
    let assembling : Prop := s.spi = .request ∧ s.windowIgnored = false
    (assembling → exec (.replyLeft .m) s = .next s) ∧
    (∀ l, (s.link l).sending = some .wait → (l = .m → ¬assembling) →
      exec (.replyLeft l) s = .next (State.drive ((s.spendWindow l).onLink l fun x =>
        { x with waitReply := none,
                 sending := if x.ordinary = none then none else some .ordinary }))) ∧
    (¬assembling → s.linkM.sending = some .ordinary → s.restartPending = false →
      exec (.replyLeft .m) s = .next (State.drive { s with
        spi := .spent
        windowIgnored := false
        linkM := { s.linkM with
          ordinary := none
          sending := if s.linkM.waitReply = none then none else some .wait } })) ∧
    (¬assembling → s.linkM.sending = some .ordinary → s.restartPending = true →
      ∃ (fuses : Fuses) (count : Nat), s.BurnStops fuses count ∧
        exec (.replyLeft .m) s = .next (s.restarted .spent fuses count)) ∧
    (let emptied (held : List Frame) : State := { s with linkE :=
       { s.linkE with ordinary := none, held := held,
                      sending := if s.linkE.waitReply = none then none else some .wait } }
     s.linkE.sending = some .ordinary →
      ((s.linkE.held = [] ∨ s.restartPending = true) →
        exec (.replyLeft .e) s = .next (emptied s.linkE.held).drive) ∧
      (∀ f : Frame, f.payload.length ≤ 1038 → s.restartPending = false → s.linkE.held = [f] →
        exec (.replyLeft .e) s = .next (takeFrame .e f (emptied [])).commit ∧
        (s.linkE.rx = .hunting →
          exec (.replyLeft .e) s = exec (.badKindFrame .e f) (emptied []) ∧
          ∀ k q, f = requestFrame k q →
            exec (.replyLeft .e) s = exec (requestCommand .e k q) (emptied []))) ∧
      (∀ f g : Frame, s.restartPending = false → s.linkE.held = [f, g] →
        let first := (takeFrame .e f (emptied [g])).commit
        (first.linkE.ordinary ≠ none → exec (.replyLeft .e) s = .next first) ∧
        (first.linkE.ordinary = none →
          exec (.replyLeft .e) s = .next
            (takeFrame .e g { first with linkE := { first.linkE with held := [] } }).commit)))

/-- The windows of Link M. REPLY_REMOVED_UNREAD is a request window's SYNC (R173, R174, assumption 26): the
assembly holds it (assumption 12), an unread ordinary reply is removed (R176), the WAIT entry is not touched,
and LINK_ERROR is set on Link M alone. If that reply answered a RESTART, the warm reset is taken in the same
event (R152), and the rest of the window, open then, is ignored (R173); a burn that it interrupts (R95) leaves
the fuse under burn set or not (assumption 5). A request, or a frame abandoned, that begins over an unread
reply does all this first, in an event of its own (assumption 13). While a frame is being assembled no other
window begins (assumption 6). Of an ignored window, and of one that begins while the part is held, no byte is
taken, and a frame that ends in it is lost. On an empty queue a window may begin, offering the oldest ready
reply, or end, as a free value says (assumption 27), and a Link E frame may begin, as another does (assumption
28). -/
def Obligations.UnreadReplyIsRemoved : Prop :=
  ∀ s : State, s.AtRest →
    let begun : LinkState := { s.linkM with rx := .assembling [0xA5] }
    let assembling : Prop := s.spi = .request ∧ s.windowIgnored = false
    let heard : Prop := s.deaf = false ∧ (s.windowIgnored = false ∨ ∀ offered, s.spi ≠ .begun offered)
    (assembling → exec .replyRemovedUnread s = .next s) ∧
    (¬assembling → heard → s.linkM.ordinary = none →
      exec .replyRemovedUnread s =
        .next (State.drive { s with spi := .request, windowIgnored := false, linkM := begun })) ∧
    (¬assembling → heard → s.linkM.ordinary ≠ none → s.restartPending = false →
      exec .replyRemovedUnread s = .next (State.drive { s with
        spi := .request
        windowIgnored := false
        linkM := LinkState.flagged
          { begun with
            ordinary := none
            sending := if s.linkM.waitReply = none then none else some .wait }
          0x100 })) ∧
    (¬assembling → heard → s.linkM.ordinary ≠ none → s.restartPending = true →
      ∃ (fuses : Fuses) (count : Nat), s.BurnStops fuses count ∧
        exec .replyRemovedUnread s = .next (s.restarted .request fuses count)) ∧
    (¬assembling → ¬heard →
      exec .replyRemovedUnread s = .next { s with spi := .request, windowIgnored := true }) ∧
    (∀ u, s.deaf = false → s.windowLost = false → s.linkM.ordinary ≠ none →
      exec .replyRemovedUnread s = .next u →
      (∀ k q, exec (requestCommand .m k q) s = exec (requestCommand .m k q) u) ∧
      (∀ f, exec (.badKindFrame .m f) s = exec (.badKindFrame .m f) u) ∧
      ∀ cause, abandons .m cause = true →
        exec (.frameAbandoned .m cause) s = exec (.frameAbandoned .m cause) u) ∧
    (s.windowLost = true →
      (∀ k q, exec (requestCommand .m k q) s = .next { s with spi := .spent }) ∧
      (∀ f, exec (.badKindFrame .m f) s = .next { s with spi := .spent }) ∧
      (∀ len : Half, (len.toNat < 2 ∨ 1040 < len.toNat) →
        exec (.frameAbandoned .m (.lenOutOfRange len)) s = .next { s with spi := .spent }) ∧
      exec (.frameAbandoned .m .windowEnded) s =
        .next { s with spi := .shut, windowIgnored := false }) ∧
    (s.deaf = true → s.spi.past = true →
      (∀ k q, exec (requestCommand .m k q) s =
        .next { s with spi := .spent, windowIgnored := true }) ∧
      ∀ f, exec (.badKindFrame .m f) s = .next { s with spi := .spent, windowIgnored := true }) ∧
    (s.pending = [] →
      ∃ rx, (rx = s.linkE.rx ∨
        (s.linkE.rx = .hunting ∧ s.deaf = false ∧ rx = .assembling [0xA5])) ∧
      let u : State := { s with
        freeCount := s.freeCount + 1, linkE := { s.linkE with rx := rx } }
      step s = .next u ∨
      (s.spi = .shut ∧ step s = .next (State.drive
        { u with spi := .begun s.linkM.sending, windowIgnored := s.deaf })) ∨
      (s.spi ≠ .shut ∧ ¬assembling ∧
        step s = .next (State.drive { u with spi := .shut, windowIgnored := false })))

/-- Frames refused at the frame checks (R170), on a ready link: any frame whose CRC does not check is
answered BAD_CRC with an empty payload and LINK_ERROR on that link alone; a good CRC with a KIND
outside Table 11-4 BAD_KIND; a known KIND with a payload of the wrong size BAD_LENGTH with the kind's
payload of zeros. Nothing else changes. -/
def Obligations.FrameChecksRefuse : Prop :=
  ∀ (s : State) (l : Link) (f : Frame), s.AtRest → s.Ready l → f.payload.length ≤ 1038 →
    let crc := crc16 (leBytes 2 (2 + f.payload.length) ++ f.kind :: f.tag :: f.payload)
    (f.crc ≠ crc →
      exec (.badKindFrame l f) s = .next (State.drive ((s.spendWindow l).onLink l fun x =>
        ({ x with
          rx := .hunting
          ordinary := some { kind := f.kind + 0x80, tag := f.tag, status := .badCrc, payload := [] } } :
          LinkState).flagged 0x100)) ∧
      (∀ k q, f = requestFrame k q →
        exec (requestCommand l k q) s = exec (.badKindFrame l f) s)) ∧
    (f.crc = crc → (∀ k, f.kind ≠ kindCode k) →
      exec (.badKindFrame l f) s = .next (s.replied l
        { kind := f.kind + 0x80, tag := f.tag, status := .badKind, payload := [] })) ∧
    (f.crc = crc → ∀ k q, f = requestFrame k q → payloadSizeOk k f.payload.length = false →
      exec (requestCommand l k q) s = .next (s.replied l
        { kind := f.kind + 0x80, tag := f.tag, status := .badLength,
          payload := List.replicate (replySize k) 0 }))

/-- Requests outside their modes (R143, Table 9-3): on a ready link, any request of the right size is
refused WRONG_MODE with a payload of zeros where its kind is not accepted in the mode, and nothing
else changes. WINDOW_EXTEND, whose reply carries the count, is stated with its own rule. -/
def Obligations.WrongModeRefuses : Prop :=
  ∀ (s : State) (l : Link) (tag : Byte) (k : Kind) (payload : List Byte), s.AtRest → s.Ready l →
    payload.length ≤ 1038 → payloadSizeOk k payload.length = true →
    ((k ∈ [.policySet, .keyEnroll, .provisionClose] ∧ s.mode ≠ .provision) ∨
     (k = .policyGet ∧ (s.mode = .startup ∨ s.mode = .failsafe)) ∨
     (k ∈ [.slotOpen, .classDecline] ∧ s.mode ≠ .verify) ∨
     (k ∈ [.manData, .manClose, .segOpen, .segData, .segClose, .slotQuery, .slotDrop,
        .floorAdvance, .keyRevoke] ∧ s.mode ≠ .verify ∧ s.mode ≠ .settled)) →
    exec (requestCommand l k (goodRequest k tag payload)) s =
      .next (s.replied l (replyOf k tag .wrongMode (List.replicate (replySize k) 0)))

/-! ### Whole-part rules -/

/-- The evaluation of a line (R117): LOCKED if a need class is DECLINED or FAILED or a soft class is
FAILED; otherwise RELEASED if every need class is VERIFIED and every soft class VERIFIED or DECLINED;
otherwise HELD. -/
def Obligations.LineEvaluation : Prop :=
  ∀ (classes : Vector ClassRec 8) (x : LineRec),
    let lost := ∃ c : Fin 8,
      (x.need.getLsbD c = true ∧ (classes[c].state = .declined ∨ classes[c].state = .failed)) ∨
      (x.soft.getLsbD c = true ∧ classes[c].state = .failed)
    let good := ∀ c : Fin 8,
      (x.need.getLsbD c = true → classes[c].state = .verified) ∧
      (x.soft.getLsbD c = true → classes[c].state = .verified ∨ classes[c].state = .declined)
    (lost → evaluateLine classes x = .locked) ∧
    (¬lost → good → evaluateLine classes x = .released) ∧
    (¬lost → ¬good → evaluateLine classes x = .held)

/-- A fault handed to fault capture (R156, R158): stamped with the boot clock, it replaces record 0
and fills the lowest empty of records 1 to 3, the others kept, and FAULT is set on both links. -/
def Obligations.FaultCaptureStores : Prop :=
  ∀ (s : State) (r : FaultRecord),
    let t := s.recordFault r
    t.faults[0] = { r with stamp := s.bootClock } ∧
    (∀ n : Fin 4, n ≠ 0 → t.faults[n] =
      if s.faults[n].code = .empty ∧ (∀ m : Fin 4, m ≠ 0 → m < n → s.faults[m].code ≠ .empty) then
        { r with stamp := s.bootClock }
      else s.faults[n]) ∧
    t.linkM = { s.linkM with flags := s.linkM.flags ||| 0x080 } ∧
    t.linkE = { s.linkE with flags := s.linkE.flags ||| 0x080 }

/-- The bytes of a complete frame spell its command, for every kind, tag, payload and CRC that a frame
admits, and for every frame of a KIND outside Table 11-4 (R168, Table 11-1). -/
def Obligations.FrameBytesSpellCommand : Prop :=
  (∀ (l : Link) (k : Kind) (q : Request), q.payload.length ≤ 1038 →
    commandOfBytes l (frameBytes (requestFrame k q)) = some (requestCommand l k q)) ∧
  (∀ (l : Link) (f : Frame), f.payload.length ≤ 1038 → (∀ k, f.kind ≠ kindCode k) →
    commandOfBytes l (frameBytes f) = some (.badKindFrame l f))

/-- The capacities and bookkeeping of the part, as the model gathers them, are kept by every step: the
bounds of queues, buffers, counts and generations (R3, R7, R38, R58, R107, R154); units that do not idle
while work waits (R39, R60); who holds a reservation, a WAIT or a held frame (R90, R152, R165, R171, R178);
the timer, which runs exactly in VERIFY, where some line is HELD (R120, R129, R137); each claimed context
belongs to a CHECKING or SIGNED slot and each queued chunk to a claimed context (R37, R38); a class is
VERIFIED exactly when one of its slots is, and a slot is live in VERIFY alone, its class PENDING (R110,
R122); and a held part and an ignored window, which leave the links at reset (R172, R173). -/
def Obligations.SoundnessKept : Prop :=
  ∀ s t : State, s.Sound → step s = .next t → t.Sound

/-- Every step keeps this of every line: it is RELEASED only while every class in its need mask is
VERIFIED and every class in its soft mask is VERIFIED or DECLINED (R118). -/
def Obligations.ReleasedLinesStand : Prop :=
  ∀ s t : State, s.LinesStand → step s = .next t → t.LinesStand

/-- A fuse that reads 1 reads 1 after every step (R89), and the ROM is as it was. -/
def Obligations.FusesAreOneWay : Prop :=
  ∀ s t : State, step s = .next t → s.fuses.Keeps t.fuses ∧ t.rom = s.rom

/-- The state after reset: the values of Table 9-4 that the manual gives (R149, R172), and the model's
invariants. That no window of Link M is open or ignored is not a value of that table: it is a level of CS_N
that the board gives, and the model's choice (assumption 26), on which the levels of the pins rest for SDO. -/
def Obligations.ResetValues : Prop :=
  State.reset.mode = .startup ∧ State.reset.verdict = .undecided ∧
  State.reset.cause = { last := .power, flags := 1 } ∧
  State.reset.failedCount = 0 ∧ State.reset.bootClock = 0 ∧ State.reset.restartPending = false ∧
  State.reset.inForce = none ∧
  policyBytes State.reset.staging = List.replicate 28 0 ++ [149, 6, 1, 3, 4] ∧
  (∀ i : Fin 12, State.reset.slots[i] = Slot.freed 0) ∧
  (∀ x : Fin 4, State.reset.ctxs[x] = none) ∧ State.reset.chunkQueue = [] ∧
  State.reset.core = none ∧ State.reset.jobs = [] ∧ State.reset.active = none ∧
  State.reset.revoking = none ∧ State.reset.fuseOp = none ∧ State.reset.reserved = false ∧
  (∀ c : Fin 8, State.reset.classes[c] = ClassRec.unused) ∧
  (∀ i : Fin 6, State.reset.lines[i] = LineRec.held) ∧
  State.reset.window = Window.stopped ∧
  State.reset.linkM = LinkState.fresh ∧ State.reset.linkE = LinkState.fresh ∧
  (∀ n : Fin 4, State.reset.faults[n] = FaultRecord.blank) ∧
  State.reset.spi = .shut ∧ State.reset.windowIgnored = false ∧ State.reset.pins = Pins.inactive ∧
  State.reset.AtRest ∧ State.reset.Sound ∧ State.reset.LinesStand
end

