-- ==== Sys2Proof/Laws/Bytes.lean ====
section
/-! SUPPORT. The lengths of byte strings that the part forms. -/

namespace Sys2Proof.Machine

@[simp] theorem leBytes_length (n v : Nat) : (leBytes n v).length = n := by
  induction n generalizing v with
  | zero => rfl
  | succ n ih => simp [leBytes, ih]

@[simp] theorem padTo_length (n : Nat) (b : List Byte) : (padTo n b).length = n := by
  simp [padTo, zeros]

/-- Padding a string of at least the length cuts it. -/
theorem padTo_of_le {n : Nat} {b : List Byte} (h : n ≤ b.length) : padTo n b = b.take n := by
  rw [padTo, List.take_append_of_le_length h]

@[simp] theorem sha256_length (m : List Byte) : (sha256 m).length = 32 := by
  simp [sha256, shaOutput]

end Sys2Proof.Machine
end

