-- ==== Sys2Proof/Laws/Vec.lean ====
section
/-! SUPPORT. Reading a record after `tabulate` and after `put`. Simp brings an index of type `Fin`
to its number, so the laws read by number. -/

namespace Sys2Proof.Machine

@[simp] theorem tabulate_getElem {α : Type} {n : Nat} (f : Fin n → α) (i : Nat) (h : i < n) :
    (tabulate f)[i]'h = f ⟨i, h⟩ := by
  simp [tabulate]

theorem put_getElem {α : Type} {n : Nat} (v : Vector α n) (i : Fin n) (x : α) (j : Nat)
    (h : j < n) : (put v i x)[j]'h = if i.val = j then x else v[j] := by
  simp [put, Vector.getElem_set]

@[simp] theorem put_getElem_self {α : Type} {n : Nat} (v : Vector α n) (i : Fin n) (x : α) :
    (put v i x)[i.val] = x := by simp [put_getElem]

@[simp] theorem put_getElem_ne {α : Type} {n : Nat} (v : Vector α n) {i j : Fin n} (x : α)
    (h : j ≠ i) : (put v i x)[j.val] = v[j.val] := by
  have : i.val ≠ j.val := fun e => h (Fin.ext e.symm)
  simp [put_getElem, this]

/-- Two records agree when their entries do. -/
theorem vector_ext_fin {α : Type} {n : Nat} {v w : Vector α n} (h : ∀ i : Fin n, v[i] = w[i]) :
    v = w := Vector.ext fun i hi => h ⟨i, hi⟩

/-- Tabulating a record's own entries gives the record. -/
@[simp] theorem tabulate_self {α : Type} {n : Nat} (v : Vector α n) :
    (tabulate fun i => v[i.val]) = v := Vector.ext fun i hi => by simp

@[simp] theorem put_self {α : Type} {n : Nat} (v : Vector α n) (i : Fin n) :
    put v i v[i.val] = v :=
  Vector.ext fun j hj => by
    rw [put_getElem]; split
    · subst_vars; rfl
    · rfl

@[simp] theorem put_put {α : Type} {n : Nat} (v : Vector α n) (i : Fin n) (x y : α) :
    put (put v i x) i y = put v i y :=
  Vector.ext fun j hj => by simp only [put_getElem]; split <;> rfl

theorem mem_indicesOf {n : Nat} (p : Fin n → Bool) (i : Fin n) :
    i ∈ indicesOf p ↔ p i = true := by simp [indicesOf]

end Sys2Proof.Machine
end

