-- ==== Sys2Proof/Laws/State.lean ====
section
/-! SUPPORT. What each update of the state leaves as it was, field by field, and what it writes. -/

namespace Sys2Proof.Machine

/-! An event posted. -/
@[simp] theorem State.post_mode (s : State) (f : EventFlag) : (s.post f).mode = s.mode := rfl
@[simp] theorem State.post_verdict (s : State) (f : EventFlag) : (s.post f).verdict = s.verdict := rfl
@[simp] theorem State.post_cause (s : State) (f : EventFlag) : (s.post f).cause = s.cause := rfl
@[simp] theorem State.post_failedCount (s : State) (f : EventFlag) : (s.post f).failedCount = s.failedCount := rfl
@[simp] theorem State.post_bootClock (s : State) (f : EventFlag) : (s.post f).bootClock = s.bootClock := rfl
@[simp] theorem State.post_staging (s : State) (f : EventFlag) : (s.post f).staging = s.staging := rfl
@[simp] theorem State.post_inForce (s : State) (f : EventFlag) : (s.post f).inForce = s.inForce := rfl
@[simp] theorem State.post_restartPending (s : State) (f : EventFlag) : (s.post f).restartPending = s.restartPending := rfl
@[simp] theorem State.post_selfTest (s : State) (f : EventFlag) : (s.post f).selfTest = s.selfTest := rfl
@[simp] theorem State.post_slots (s : State) (f : EventFlag) : (s.post f).slots = s.slots := rfl
@[simp] theorem State.post_ctxs (s : State) (f : EventFlag) : (s.post f).ctxs = s.ctxs := rfl
@[simp] theorem State.post_chunkQueue (s : State) (f : EventFlag) : (s.post f).chunkQueue = s.chunkQueue := rfl
@[simp] theorem State.post_core (s : State) (f : EventFlag) : (s.post f).core = s.core := rfl
@[simp] theorem State.post_jobs (s : State) (f : EventFlag) : (s.post f).jobs = s.jobs := rfl
@[simp] theorem State.post_active (s : State) (f : EventFlag) : (s.post f).active = s.active := rfl
@[simp] theorem State.post_revoking (s : State) (f : EventFlag) : (s.post f).revoking = s.revoking := rfl
@[simp] theorem State.post_fuses (s : State) (f : EventFlag) : (s.post f).fuses = s.fuses := rfl
@[simp] theorem State.post_fuseOp (s : State) (f : EventFlag) : (s.post f).fuseOp = s.fuseOp := rfl
@[simp] theorem State.post_reserved (s : State) (f : EventFlag) : (s.post f).reserved = s.reserved := rfl
@[simp] theorem State.post_classes (s : State) (f : EventFlag) : (s.post f).classes = s.classes := rfl
@[simp] theorem State.post_lines (s : State) (f : EventFlag) : (s.post f).lines = s.lines := rfl
@[simp] theorem State.post_window (s : State) (f : EventFlag) : (s.post f).window = s.window := rfl
@[simp] theorem State.post_faults (s : State) (f : EventFlag) : (s.post f).faults = s.faults := rfl
@[simp] theorem State.post_rom (s : State) (f : EventFlag) : (s.post f).rom = s.rom := rfl
@[simp] theorem State.post_resetNLow (s : State) (f : EventFlag) : (s.post f).resetNLow = s.resetNLow := rfl
@[simp] theorem State.post_supplyLow (s : State) (f : EventFlag) : (s.post f).supplyLow = s.supplyLow := rfl
@[simp] theorem State.post_spi (s : State) (f : EventFlag) : (s.post f).spi = s.spi := rfl
@[simp] theorem State.post_windowIgnored (s : State) (f : EventFlag) : (s.post f).windowIgnored = s.windowIgnored := rfl
@[simp] theorem State.post_pins (s : State) (f : EventFlag) : (s.post f).pins = s.pins := rfl
@[simp] theorem State.post_freeCount (s : State) (f : EventFlag) : (s.post f).freeCount = s.freeCount := rfl
@[simp] theorem State.post_pending (s : State) (f : EventFlag) : (s.post f).pending = s.pending := rfl

/-! One link changed. -/
@[simp] theorem State.onLink_mode (s : State) (l : Link) (f : LinkState → LinkState) : (s.onLink l f).mode = s.mode := by cases l <;> rfl
@[simp] theorem State.onLink_verdict (s : State) (l : Link) (f : LinkState → LinkState) : (s.onLink l f).verdict = s.verdict := by cases l <;> rfl
@[simp] theorem State.onLink_cause (s : State) (l : Link) (f : LinkState → LinkState) : (s.onLink l f).cause = s.cause := by cases l <;> rfl
@[simp] theorem State.onLink_failedCount (s : State) (l : Link) (f : LinkState → LinkState) : (s.onLink l f).failedCount = s.failedCount := by cases l <;> rfl
@[simp] theorem State.onLink_bootClock (s : State) (l : Link) (f : LinkState → LinkState) : (s.onLink l f).bootClock = s.bootClock := by cases l <;> rfl
@[simp] theorem State.onLink_staging (s : State) (l : Link) (f : LinkState → LinkState) : (s.onLink l f).staging = s.staging := by cases l <;> rfl
@[simp] theorem State.onLink_inForce (s : State) (l : Link) (f : LinkState → LinkState) : (s.onLink l f).inForce = s.inForce := by cases l <;> rfl
@[simp] theorem State.onLink_restartPending (s : State) (l : Link) (f : LinkState → LinkState) : (s.onLink l f).restartPending = s.restartPending := by cases l <;> rfl
@[simp] theorem State.onLink_selfTest (s : State) (l : Link) (f : LinkState → LinkState) : (s.onLink l f).selfTest = s.selfTest := by cases l <;> rfl
@[simp] theorem State.onLink_slots (s : State) (l : Link) (f : LinkState → LinkState) : (s.onLink l f).slots = s.slots := by cases l <;> rfl
@[simp] theorem State.onLink_ctxs (s : State) (l : Link) (f : LinkState → LinkState) : (s.onLink l f).ctxs = s.ctxs := by cases l <;> rfl
@[simp] theorem State.onLink_chunkQueue (s : State) (l : Link) (f : LinkState → LinkState) : (s.onLink l f).chunkQueue = s.chunkQueue := by cases l <;> rfl
@[simp] theorem State.onLink_core (s : State) (l : Link) (f : LinkState → LinkState) : (s.onLink l f).core = s.core := by cases l <;> rfl
@[simp] theorem State.onLink_jobs (s : State) (l : Link) (f : LinkState → LinkState) : (s.onLink l f).jobs = s.jobs := by cases l <;> rfl
@[simp] theorem State.onLink_active (s : State) (l : Link) (f : LinkState → LinkState) : (s.onLink l f).active = s.active := by cases l <;> rfl
@[simp] theorem State.onLink_revoking (s : State) (l : Link) (f : LinkState → LinkState) : (s.onLink l f).revoking = s.revoking := by cases l <;> rfl
@[simp] theorem State.onLink_fuses (s : State) (l : Link) (f : LinkState → LinkState) : (s.onLink l f).fuses = s.fuses := by cases l <;> rfl
@[simp] theorem State.onLink_fuseOp (s : State) (l : Link) (f : LinkState → LinkState) : (s.onLink l f).fuseOp = s.fuseOp := by cases l <;> rfl
@[simp] theorem State.onLink_reserved (s : State) (l : Link) (f : LinkState → LinkState) : (s.onLink l f).reserved = s.reserved := by cases l <;> rfl
@[simp] theorem State.onLink_classes (s : State) (l : Link) (f : LinkState → LinkState) : (s.onLink l f).classes = s.classes := by cases l <;> rfl
@[simp] theorem State.onLink_lines (s : State) (l : Link) (f : LinkState → LinkState) : (s.onLink l f).lines = s.lines := by cases l <;> rfl
@[simp] theorem State.onLink_window (s : State) (l : Link) (f : LinkState → LinkState) : (s.onLink l f).window = s.window := by cases l <;> rfl
@[simp] theorem State.onLink_faults (s : State) (l : Link) (f : LinkState → LinkState) : (s.onLink l f).faults = s.faults := by cases l <;> rfl
@[simp] theorem State.onLink_rom (s : State) (l : Link) (f : LinkState → LinkState) : (s.onLink l f).rom = s.rom := by cases l <;> rfl
@[simp] theorem State.onLink_resetNLow (s : State) (l : Link) (f : LinkState → LinkState) : (s.onLink l f).resetNLow = s.resetNLow := by cases l <;> rfl
@[simp] theorem State.onLink_supplyLow (s : State) (l : Link) (f : LinkState → LinkState) : (s.onLink l f).supplyLow = s.supplyLow := by cases l <;> rfl
@[simp] theorem State.onLink_spi (s : State) (l : Link) (f : LinkState → LinkState) : (s.onLink l f).spi = s.spi := by cases l <;> rfl
@[simp] theorem State.onLink_windowIgnored (s : State) (l : Link) (f : LinkState → LinkState) : (s.onLink l f).windowIgnored = s.windowIgnored := by cases l <;> rfl
@[simp] theorem State.onLink_pins (s : State) (l : Link) (f : LinkState → LinkState) : (s.onLink l f).pins = s.pins := by cases l <;> rfl
@[simp] theorem State.onLink_freeCount (s : State) (l : Link) (f : LinkState → LinkState) : (s.onLink l f).freeCount = s.freeCount := by cases l <;> rfl
@[simp] theorem State.onLink_pending (s : State) (l : Link) (f : LinkState → LinkState) : (s.onLink l f).pending = s.pending := by cases l <;> rfl

/-! LINK_ERROR on one link. -/
@[simp] theorem State.linkError_mode (s : State) (l : Link) : (s.linkError l).mode = s.mode := by simp [State.linkError]
@[simp] theorem State.linkError_verdict (s : State) (l : Link) : (s.linkError l).verdict = s.verdict := by simp [State.linkError]
@[simp] theorem State.linkError_cause (s : State) (l : Link) : (s.linkError l).cause = s.cause := by simp [State.linkError]
@[simp] theorem State.linkError_failedCount (s : State) (l : Link) : (s.linkError l).failedCount = s.failedCount := by simp [State.linkError]
@[simp] theorem State.linkError_bootClock (s : State) (l : Link) : (s.linkError l).bootClock = s.bootClock := by simp [State.linkError]
@[simp] theorem State.linkError_staging (s : State) (l : Link) : (s.linkError l).staging = s.staging := by simp [State.linkError]
@[simp] theorem State.linkError_inForce (s : State) (l : Link) : (s.linkError l).inForce = s.inForce := by simp [State.linkError]
@[simp] theorem State.linkError_restartPending (s : State) (l : Link) : (s.linkError l).restartPending = s.restartPending := by simp [State.linkError]
@[simp] theorem State.linkError_selfTest (s : State) (l : Link) : (s.linkError l).selfTest = s.selfTest := by simp [State.linkError]
@[simp] theorem State.linkError_slots (s : State) (l : Link) : (s.linkError l).slots = s.slots := by simp [State.linkError]
@[simp] theorem State.linkError_ctxs (s : State) (l : Link) : (s.linkError l).ctxs = s.ctxs := by simp [State.linkError]
@[simp] theorem State.linkError_chunkQueue (s : State) (l : Link) : (s.linkError l).chunkQueue = s.chunkQueue := by simp [State.linkError]
@[simp] theorem State.linkError_core (s : State) (l : Link) : (s.linkError l).core = s.core := by simp [State.linkError]
@[simp] theorem State.linkError_jobs (s : State) (l : Link) : (s.linkError l).jobs = s.jobs := by simp [State.linkError]
@[simp] theorem State.linkError_active (s : State) (l : Link) : (s.linkError l).active = s.active := by simp [State.linkError]
@[simp] theorem State.linkError_revoking (s : State) (l : Link) : (s.linkError l).revoking = s.revoking := by simp [State.linkError]
@[simp] theorem State.linkError_fuses (s : State) (l : Link) : (s.linkError l).fuses = s.fuses := by simp [State.linkError]
@[simp] theorem State.linkError_fuseOp (s : State) (l : Link) : (s.linkError l).fuseOp = s.fuseOp := by simp [State.linkError]
@[simp] theorem State.linkError_reserved (s : State) (l : Link) : (s.linkError l).reserved = s.reserved := by simp [State.linkError]
@[simp] theorem State.linkError_classes (s : State) (l : Link) : (s.linkError l).classes = s.classes := by simp [State.linkError]
@[simp] theorem State.linkError_lines (s : State) (l : Link) : (s.linkError l).lines = s.lines := by simp [State.linkError]
@[simp] theorem State.linkError_window (s : State) (l : Link) : (s.linkError l).window = s.window := by simp [State.linkError]
@[simp] theorem State.linkError_faults (s : State) (l : Link) : (s.linkError l).faults = s.faults := by simp [State.linkError]
@[simp] theorem State.linkError_rom (s : State) (l : Link) : (s.linkError l).rom = s.rom := by simp [State.linkError]
@[simp] theorem State.linkError_resetNLow (s : State) (l : Link) : (s.linkError l).resetNLow = s.resetNLow := by simp [State.linkError]
@[simp] theorem State.linkError_supplyLow (s : State) (l : Link) : (s.linkError l).supplyLow = s.supplyLow := by simp [State.linkError]
@[simp] theorem State.linkError_spi (s : State) (l : Link) : (s.linkError l).spi = s.spi := by simp [State.linkError]
@[simp] theorem State.linkError_windowIgnored (s : State) (l : Link) : (s.linkError l).windowIgnored = s.windowIgnored := by simp [State.linkError]
@[simp] theorem State.linkError_pins (s : State) (l : Link) : (s.linkError l).pins = s.pins := by simp [State.linkError]
@[simp] theorem State.linkError_freeCount (s : State) (l : Link) : (s.linkError l).freeCount = s.freeCount := by simp [State.linkError]
@[simp] theorem State.linkError_pending (s : State) (l : Link) : (s.linkError l).pending = s.pending := by simp [State.linkError]

/-! One slot replaced. -/
@[simp] theorem State.setSlot_mode (s : State) (i : Fin 12) (x : Slot) : (s.setSlot i x).mode = s.mode := rfl
@[simp] theorem State.setSlot_verdict (s : State) (i : Fin 12) (x : Slot) : (s.setSlot i x).verdict = s.verdict := rfl
@[simp] theorem State.setSlot_cause (s : State) (i : Fin 12) (x : Slot) : (s.setSlot i x).cause = s.cause := rfl
@[simp] theorem State.setSlot_failedCount (s : State) (i : Fin 12) (x : Slot) : (s.setSlot i x).failedCount = s.failedCount := rfl
@[simp] theorem State.setSlot_bootClock (s : State) (i : Fin 12) (x : Slot) : (s.setSlot i x).bootClock = s.bootClock := rfl
@[simp] theorem State.setSlot_staging (s : State) (i : Fin 12) (x : Slot) : (s.setSlot i x).staging = s.staging := rfl
@[simp] theorem State.setSlot_inForce (s : State) (i : Fin 12) (x : Slot) : (s.setSlot i x).inForce = s.inForce := rfl
@[simp] theorem State.setSlot_restartPending (s : State) (i : Fin 12) (x : Slot) : (s.setSlot i x).restartPending = s.restartPending := rfl
@[simp] theorem State.setSlot_selfTest (s : State) (i : Fin 12) (x : Slot) : (s.setSlot i x).selfTest = s.selfTest := rfl
@[simp] theorem State.setSlot_ctxs (s : State) (i : Fin 12) (x : Slot) : (s.setSlot i x).ctxs = s.ctxs := rfl
@[simp] theorem State.setSlot_chunkQueue (s : State) (i : Fin 12) (x : Slot) : (s.setSlot i x).chunkQueue = s.chunkQueue := rfl
@[simp] theorem State.setSlot_core (s : State) (i : Fin 12) (x : Slot) : (s.setSlot i x).core = s.core := rfl
@[simp] theorem State.setSlot_jobs (s : State) (i : Fin 12) (x : Slot) : (s.setSlot i x).jobs = s.jobs := rfl
@[simp] theorem State.setSlot_active (s : State) (i : Fin 12) (x : Slot) : (s.setSlot i x).active = s.active := rfl
@[simp] theorem State.setSlot_revoking (s : State) (i : Fin 12) (x : Slot) : (s.setSlot i x).revoking = s.revoking := rfl
@[simp] theorem State.setSlot_fuses (s : State) (i : Fin 12) (x : Slot) : (s.setSlot i x).fuses = s.fuses := rfl
@[simp] theorem State.setSlot_fuseOp (s : State) (i : Fin 12) (x : Slot) : (s.setSlot i x).fuseOp = s.fuseOp := rfl
@[simp] theorem State.setSlot_reserved (s : State) (i : Fin 12) (x : Slot) : (s.setSlot i x).reserved = s.reserved := rfl
@[simp] theorem State.setSlot_classes (s : State) (i : Fin 12) (x : Slot) : (s.setSlot i x).classes = s.classes := rfl
@[simp] theorem State.setSlot_lines (s : State) (i : Fin 12) (x : Slot) : (s.setSlot i x).lines = s.lines := rfl
@[simp] theorem State.setSlot_window (s : State) (i : Fin 12) (x : Slot) : (s.setSlot i x).window = s.window := rfl
@[simp] theorem State.setSlot_linkM (s : State) (i : Fin 12) (x : Slot) : (s.setSlot i x).linkM = s.linkM := rfl
@[simp] theorem State.setSlot_linkE (s : State) (i : Fin 12) (x : Slot) : (s.setSlot i x).linkE = s.linkE := rfl
@[simp] theorem State.setSlot_faults (s : State) (i : Fin 12) (x : Slot) : (s.setSlot i x).faults = s.faults := rfl
@[simp] theorem State.setSlot_rom (s : State) (i : Fin 12) (x : Slot) : (s.setSlot i x).rom = s.rom := rfl
@[simp] theorem State.setSlot_resetNLow (s : State) (i : Fin 12) (x : Slot) : (s.setSlot i x).resetNLow = s.resetNLow := rfl
@[simp] theorem State.setSlot_supplyLow (s : State) (i : Fin 12) (x : Slot) : (s.setSlot i x).supplyLow = s.supplyLow := rfl
@[simp] theorem State.setSlot_spi (s : State) (i : Fin 12) (x : Slot) : (s.setSlot i x).spi = s.spi := rfl
@[simp] theorem State.setSlot_windowIgnored (s : State) (i : Fin 12) (x : Slot) : (s.setSlot i x).windowIgnored = s.windowIgnored := rfl
@[simp] theorem State.setSlot_pins (s : State) (i : Fin 12) (x : Slot) : (s.setSlot i x).pins = s.pins := rfl
@[simp] theorem State.setSlot_freeCount (s : State) (i : Fin 12) (x : Slot) : (s.setSlot i x).freeCount = s.freeCount := rfl
@[simp] theorem State.setSlot_pending (s : State) (i : Fin 12) (x : Slot) : (s.setSlot i x).pending = s.pending := rfl

/-! One class record replaced. -/
@[simp] theorem State.setClass_mode (s : State) (c : Fin 8) (x : ClassRec) : (s.setClass c x).mode = s.mode := rfl
@[simp] theorem State.setClass_verdict (s : State) (c : Fin 8) (x : ClassRec) : (s.setClass c x).verdict = s.verdict := rfl
@[simp] theorem State.setClass_cause (s : State) (c : Fin 8) (x : ClassRec) : (s.setClass c x).cause = s.cause := rfl
@[simp] theorem State.setClass_failedCount (s : State) (c : Fin 8) (x : ClassRec) : (s.setClass c x).failedCount = s.failedCount := rfl
@[simp] theorem State.setClass_bootClock (s : State) (c : Fin 8) (x : ClassRec) : (s.setClass c x).bootClock = s.bootClock := rfl
@[simp] theorem State.setClass_staging (s : State) (c : Fin 8) (x : ClassRec) : (s.setClass c x).staging = s.staging := rfl
@[simp] theorem State.setClass_inForce (s : State) (c : Fin 8) (x : ClassRec) : (s.setClass c x).inForce = s.inForce := rfl
@[simp] theorem State.setClass_restartPending (s : State) (c : Fin 8) (x : ClassRec) : (s.setClass c x).restartPending = s.restartPending := rfl
@[simp] theorem State.setClass_selfTest (s : State) (c : Fin 8) (x : ClassRec) : (s.setClass c x).selfTest = s.selfTest := rfl
@[simp] theorem State.setClass_slots (s : State) (c : Fin 8) (x : ClassRec) : (s.setClass c x).slots = s.slots := rfl
@[simp] theorem State.setClass_ctxs (s : State) (c : Fin 8) (x : ClassRec) : (s.setClass c x).ctxs = s.ctxs := rfl
@[simp] theorem State.setClass_chunkQueue (s : State) (c : Fin 8) (x : ClassRec) : (s.setClass c x).chunkQueue = s.chunkQueue := rfl
@[simp] theorem State.setClass_core (s : State) (c : Fin 8) (x : ClassRec) : (s.setClass c x).core = s.core := rfl
@[simp] theorem State.setClass_jobs (s : State) (c : Fin 8) (x : ClassRec) : (s.setClass c x).jobs = s.jobs := rfl
@[simp] theorem State.setClass_active (s : State) (c : Fin 8) (x : ClassRec) : (s.setClass c x).active = s.active := rfl
@[simp] theorem State.setClass_revoking (s : State) (c : Fin 8) (x : ClassRec) : (s.setClass c x).revoking = s.revoking := rfl
@[simp] theorem State.setClass_fuses (s : State) (c : Fin 8) (x : ClassRec) : (s.setClass c x).fuses = s.fuses := rfl
@[simp] theorem State.setClass_fuseOp (s : State) (c : Fin 8) (x : ClassRec) : (s.setClass c x).fuseOp = s.fuseOp := rfl
@[simp] theorem State.setClass_reserved (s : State) (c : Fin 8) (x : ClassRec) : (s.setClass c x).reserved = s.reserved := rfl
@[simp] theorem State.setClass_lines (s : State) (c : Fin 8) (x : ClassRec) : (s.setClass c x).lines = s.lines := rfl
@[simp] theorem State.setClass_window (s : State) (c : Fin 8) (x : ClassRec) : (s.setClass c x).window = s.window := rfl
@[simp] theorem State.setClass_linkM (s : State) (c : Fin 8) (x : ClassRec) : (s.setClass c x).linkM = s.linkM := rfl
@[simp] theorem State.setClass_linkE (s : State) (c : Fin 8) (x : ClassRec) : (s.setClass c x).linkE = s.linkE := rfl
@[simp] theorem State.setClass_faults (s : State) (c : Fin 8) (x : ClassRec) : (s.setClass c x).faults = s.faults := rfl
@[simp] theorem State.setClass_rom (s : State) (c : Fin 8) (x : ClassRec) : (s.setClass c x).rom = s.rom := rfl
@[simp] theorem State.setClass_resetNLow (s : State) (c : Fin 8) (x : ClassRec) : (s.setClass c x).resetNLow = s.resetNLow := rfl
@[simp] theorem State.setClass_supplyLow (s : State) (c : Fin 8) (x : ClassRec) : (s.setClass c x).supplyLow = s.supplyLow := rfl
@[simp] theorem State.setClass_spi (s : State) (c : Fin 8) (x : ClassRec) : (s.setClass c x).spi = s.spi := rfl
@[simp] theorem State.setClass_windowIgnored (s : State) (c : Fin 8) (x : ClassRec) : (s.setClass c x).windowIgnored = s.windowIgnored := rfl
@[simp] theorem State.setClass_pins (s : State) (c : Fin 8) (x : ClassRec) : (s.setClass c x).pins = s.pins := rfl
@[simp] theorem State.setClass_freeCount (s : State) (c : Fin 8) (x : ClassRec) : (s.setClass c x).freeCount = s.freeCount := rfl
@[simp] theorem State.setClass_pending (s : State) (c : Fin 8) (x : ClassRec) : (s.setClass c x).pending = s.pending := rfl

/-! One context replaced. -/
@[simp] theorem State.setCtx_mode (s : State) (x : Fin 4) (c : Option Claim) : (s.setCtx x c).mode = s.mode := rfl
@[simp] theorem State.setCtx_verdict (s : State) (x : Fin 4) (c : Option Claim) : (s.setCtx x c).verdict = s.verdict := rfl
@[simp] theorem State.setCtx_cause (s : State) (x : Fin 4) (c : Option Claim) : (s.setCtx x c).cause = s.cause := rfl
@[simp] theorem State.setCtx_failedCount (s : State) (x : Fin 4) (c : Option Claim) : (s.setCtx x c).failedCount = s.failedCount := rfl
@[simp] theorem State.setCtx_bootClock (s : State) (x : Fin 4) (c : Option Claim) : (s.setCtx x c).bootClock = s.bootClock := rfl
@[simp] theorem State.setCtx_staging (s : State) (x : Fin 4) (c : Option Claim) : (s.setCtx x c).staging = s.staging := rfl
@[simp] theorem State.setCtx_inForce (s : State) (x : Fin 4) (c : Option Claim) : (s.setCtx x c).inForce = s.inForce := rfl
@[simp] theorem State.setCtx_restartPending (s : State) (x : Fin 4) (c : Option Claim) : (s.setCtx x c).restartPending = s.restartPending := rfl
@[simp] theorem State.setCtx_selfTest (s : State) (x : Fin 4) (c : Option Claim) : (s.setCtx x c).selfTest = s.selfTest := rfl
@[simp] theorem State.setCtx_slots (s : State) (x : Fin 4) (c : Option Claim) : (s.setCtx x c).slots = s.slots := rfl
@[simp] theorem State.setCtx_chunkQueue (s : State) (x : Fin 4) (c : Option Claim) : (s.setCtx x c).chunkQueue = s.chunkQueue := rfl
@[simp] theorem State.setCtx_core (s : State) (x : Fin 4) (c : Option Claim) : (s.setCtx x c).core = s.core := rfl
@[simp] theorem State.setCtx_jobs (s : State) (x : Fin 4) (c : Option Claim) : (s.setCtx x c).jobs = s.jobs := rfl
@[simp] theorem State.setCtx_active (s : State) (x : Fin 4) (c : Option Claim) : (s.setCtx x c).active = s.active := rfl
@[simp] theorem State.setCtx_revoking (s : State) (x : Fin 4) (c : Option Claim) : (s.setCtx x c).revoking = s.revoking := rfl
@[simp] theorem State.setCtx_fuses (s : State) (x : Fin 4) (c : Option Claim) : (s.setCtx x c).fuses = s.fuses := rfl
@[simp] theorem State.setCtx_fuseOp (s : State) (x : Fin 4) (c : Option Claim) : (s.setCtx x c).fuseOp = s.fuseOp := rfl
@[simp] theorem State.setCtx_reserved (s : State) (x : Fin 4) (c : Option Claim) : (s.setCtx x c).reserved = s.reserved := rfl
@[simp] theorem State.setCtx_classes (s : State) (x : Fin 4) (c : Option Claim) : (s.setCtx x c).classes = s.classes := rfl
@[simp] theorem State.setCtx_lines (s : State) (x : Fin 4) (c : Option Claim) : (s.setCtx x c).lines = s.lines := rfl
@[simp] theorem State.setCtx_window (s : State) (x : Fin 4) (c : Option Claim) : (s.setCtx x c).window = s.window := rfl
@[simp] theorem State.setCtx_linkM (s : State) (x : Fin 4) (c : Option Claim) : (s.setCtx x c).linkM = s.linkM := rfl
@[simp] theorem State.setCtx_linkE (s : State) (x : Fin 4) (c : Option Claim) : (s.setCtx x c).linkE = s.linkE := rfl
@[simp] theorem State.setCtx_faults (s : State) (x : Fin 4) (c : Option Claim) : (s.setCtx x c).faults = s.faults := rfl
@[simp] theorem State.setCtx_rom (s : State) (x : Fin 4) (c : Option Claim) : (s.setCtx x c).rom = s.rom := rfl
@[simp] theorem State.setCtx_resetNLow (s : State) (x : Fin 4) (c : Option Claim) : (s.setCtx x c).resetNLow = s.resetNLow := rfl
@[simp] theorem State.setCtx_supplyLow (s : State) (x : Fin 4) (c : Option Claim) : (s.setCtx x c).supplyLow = s.supplyLow := rfl
@[simp] theorem State.setCtx_spi (s : State) (x : Fin 4) (c : Option Claim) : (s.setCtx x c).spi = s.spi := rfl
@[simp] theorem State.setCtx_windowIgnored (s : State) (x : Fin 4) (c : Option Claim) : (s.setCtx x c).windowIgnored = s.windowIgnored := rfl
@[simp] theorem State.setCtx_pins (s : State) (x : Fin 4) (c : Option Claim) : (s.setCtx x c).pins = s.pins := rfl
@[simp] theorem State.setCtx_freeCount (s : State) (x : Fin 4) (c : Option Claim) : (s.setCtx x c).freeCount = s.freeCount := rfl
@[simp] theorem State.setCtx_pending (s : State) (x : Fin 4) (c : Option Claim) : (s.setCtx x c).pending = s.pending := rfl

/-! A fault recorded. -/
@[simp] theorem State.recordFault_mode (s : State) (r : FaultRecord) : (s.recordFault r).mode = s.mode := rfl
@[simp] theorem State.recordFault_verdict (s : State) (r : FaultRecord) : (s.recordFault r).verdict = s.verdict := rfl
@[simp] theorem State.recordFault_cause (s : State) (r : FaultRecord) : (s.recordFault r).cause = s.cause := rfl
@[simp] theorem State.recordFault_failedCount (s : State) (r : FaultRecord) : (s.recordFault r).failedCount = s.failedCount := rfl
@[simp] theorem State.recordFault_bootClock (s : State) (r : FaultRecord) : (s.recordFault r).bootClock = s.bootClock := rfl
@[simp] theorem State.recordFault_staging (s : State) (r : FaultRecord) : (s.recordFault r).staging = s.staging := rfl
@[simp] theorem State.recordFault_inForce (s : State) (r : FaultRecord) : (s.recordFault r).inForce = s.inForce := rfl
@[simp] theorem State.recordFault_restartPending (s : State) (r : FaultRecord) : (s.recordFault r).restartPending = s.restartPending := rfl
@[simp] theorem State.recordFault_selfTest (s : State) (r : FaultRecord) : (s.recordFault r).selfTest = s.selfTest := rfl
@[simp] theorem State.recordFault_slots (s : State) (r : FaultRecord) : (s.recordFault r).slots = s.slots := rfl
@[simp] theorem State.recordFault_ctxs (s : State) (r : FaultRecord) : (s.recordFault r).ctxs = s.ctxs := rfl
@[simp] theorem State.recordFault_chunkQueue (s : State) (r : FaultRecord) : (s.recordFault r).chunkQueue = s.chunkQueue := rfl
@[simp] theorem State.recordFault_core (s : State) (r : FaultRecord) : (s.recordFault r).core = s.core := rfl
@[simp] theorem State.recordFault_jobs (s : State) (r : FaultRecord) : (s.recordFault r).jobs = s.jobs := rfl
@[simp] theorem State.recordFault_active (s : State) (r : FaultRecord) : (s.recordFault r).active = s.active := rfl
@[simp] theorem State.recordFault_revoking (s : State) (r : FaultRecord) : (s.recordFault r).revoking = s.revoking := rfl
@[simp] theorem State.recordFault_fuses (s : State) (r : FaultRecord) : (s.recordFault r).fuses = s.fuses := rfl
@[simp] theorem State.recordFault_fuseOp (s : State) (r : FaultRecord) : (s.recordFault r).fuseOp = s.fuseOp := rfl
@[simp] theorem State.recordFault_reserved (s : State) (r : FaultRecord) : (s.recordFault r).reserved = s.reserved := rfl
@[simp] theorem State.recordFault_classes (s : State) (r : FaultRecord) : (s.recordFault r).classes = s.classes := rfl
@[simp] theorem State.recordFault_lines (s : State) (r : FaultRecord) : (s.recordFault r).lines = s.lines := rfl
@[simp] theorem State.recordFault_window (s : State) (r : FaultRecord) : (s.recordFault r).window = s.window := rfl
@[simp] theorem State.recordFault_rom (s : State) (r : FaultRecord) : (s.recordFault r).rom = s.rom := rfl
@[simp] theorem State.recordFault_resetNLow (s : State) (r : FaultRecord) : (s.recordFault r).resetNLow = s.resetNLow := rfl
@[simp] theorem State.recordFault_supplyLow (s : State) (r : FaultRecord) : (s.recordFault r).supplyLow = s.supplyLow := rfl
@[simp] theorem State.recordFault_spi (s : State) (r : FaultRecord) : (s.recordFault r).spi = s.spi := rfl
@[simp] theorem State.recordFault_windowIgnored (s : State) (r : FaultRecord) : (s.recordFault r).windowIgnored = s.windowIgnored := rfl
@[simp] theorem State.recordFault_pins (s : State) (r : FaultRecord) : (s.recordFault r).pins = s.pins := rfl
@[simp] theorem State.recordFault_freeCount (s : State) (r : FaultRecord) : (s.recordFault r).freeCount = s.freeCount := rfl
@[simp] theorem State.recordFault_pending (s : State) (r : FaultRecord) : (s.recordFault r).pending = s.pending := rfl

/-! The close of an event. -/
@[simp] theorem State.commit_mode (s : State) : (s.commit).mode = s.mode := rfl
@[simp] theorem State.commit_verdict (s : State) : (s.commit).verdict = s.verdict := rfl
@[simp] theorem State.commit_cause (s : State) : (s.commit).cause = s.cause := rfl
@[simp] theorem State.commit_failedCount (s : State) : (s.commit).failedCount = s.failedCount := rfl
@[simp] theorem State.commit_bootClock (s : State) : (s.commit).bootClock = s.bootClock := rfl
@[simp] theorem State.commit_staging (s : State) : (s.commit).staging = s.staging := rfl
@[simp] theorem State.commit_inForce (s : State) : (s.commit).inForce = s.inForce := rfl
@[simp] theorem State.commit_restartPending (s : State) : (s.commit).restartPending = s.restartPending := rfl
@[simp] theorem State.commit_selfTest (s : State) : (s.commit).selfTest = s.selfTest := rfl
@[simp] theorem State.commit_slots (s : State) : (s.commit).slots = s.slots := rfl
@[simp] theorem State.commit_ctxs (s : State) : (s.commit).ctxs = s.ctxs := rfl
@[simp] theorem State.commit_chunkQueue (s : State) : (s.commit).chunkQueue = s.chunkQueue := rfl
@[simp] theorem State.commit_core (s : State) : (s.commit).core = s.core := rfl
@[simp] theorem State.commit_jobs (s : State) : (s.commit).jobs = s.jobs := rfl
@[simp] theorem State.commit_active (s : State) : (s.commit).active = s.active := rfl
@[simp] theorem State.commit_revoking (s : State) : (s.commit).revoking = s.revoking := rfl
@[simp] theorem State.commit_fuses (s : State) : (s.commit).fuses = s.fuses := rfl
@[simp] theorem State.commit_fuseOp (s : State) : (s.commit).fuseOp = s.fuseOp := rfl
@[simp] theorem State.commit_reserved (s : State) : (s.commit).reserved = s.reserved := rfl
@[simp] theorem State.commit_classes (s : State) : (s.commit).classes = s.classes := rfl
@[simp] theorem State.commit_lines (s : State) : (s.commit).lines = s.lines := rfl
@[simp] theorem State.commit_window (s : State) : (s.commit).window = s.window := rfl
@[simp] theorem State.commit_faults (s : State) : (s.commit).faults = s.faults := rfl
@[simp] theorem State.commit_rom (s : State) : (s.commit).rom = s.rom := rfl
@[simp] theorem State.commit_resetNLow (s : State) : (s.commit).resetNLow = s.resetNLow := rfl
@[simp] theorem State.commit_supplyLow (s : State) : (s.commit).supplyLow = s.supplyLow := rfl
@[simp] theorem State.commit_spi (s : State) : (s.commit).spi = s.spi := rfl
@[simp] theorem State.commit_windowIgnored (s : State) : (s.commit).windowIgnored = s.windowIgnored := rfl
@[simp] theorem State.commit_freeCount (s : State) : (s.commit).freeCount = s.freeCount := rfl
@[simp] theorem State.commit_pending (s : State) : (s.commit).pending = s.pending := rfl

/-! A reply put in its entry. -/
@[simp] theorem State.putReply_mode (s : State) (l : Link) (r : Reply) : (s.putReply l r).mode = s.mode := by simp [State.putReply]
@[simp] theorem State.putReply_verdict (s : State) (l : Link) (r : Reply) : (s.putReply l r).verdict = s.verdict := by simp [State.putReply]
@[simp] theorem State.putReply_cause (s : State) (l : Link) (r : Reply) : (s.putReply l r).cause = s.cause := by simp [State.putReply]
@[simp] theorem State.putReply_failedCount (s : State) (l : Link) (r : Reply) : (s.putReply l r).failedCount = s.failedCount := by simp [State.putReply]
@[simp] theorem State.putReply_bootClock (s : State) (l : Link) (r : Reply) : (s.putReply l r).bootClock = s.bootClock := by simp [State.putReply]
@[simp] theorem State.putReply_staging (s : State) (l : Link) (r : Reply) : (s.putReply l r).staging = s.staging := by simp [State.putReply]
@[simp] theorem State.putReply_inForce (s : State) (l : Link) (r : Reply) : (s.putReply l r).inForce = s.inForce := by simp [State.putReply]
@[simp] theorem State.putReply_restartPending (s : State) (l : Link) (r : Reply) : (s.putReply l r).restartPending = s.restartPending := by simp [State.putReply]
@[simp] theorem State.putReply_selfTest (s : State) (l : Link) (r : Reply) : (s.putReply l r).selfTest = s.selfTest := by simp [State.putReply]
@[simp] theorem State.putReply_slots (s : State) (l : Link) (r : Reply) : (s.putReply l r).slots = s.slots := by simp [State.putReply]
@[simp] theorem State.putReply_ctxs (s : State) (l : Link) (r : Reply) : (s.putReply l r).ctxs = s.ctxs := by simp [State.putReply]
@[simp] theorem State.putReply_chunkQueue (s : State) (l : Link) (r : Reply) : (s.putReply l r).chunkQueue = s.chunkQueue := by simp [State.putReply]
@[simp] theorem State.putReply_core (s : State) (l : Link) (r : Reply) : (s.putReply l r).core = s.core := by simp [State.putReply]
@[simp] theorem State.putReply_jobs (s : State) (l : Link) (r : Reply) : (s.putReply l r).jobs = s.jobs := by simp [State.putReply]
@[simp] theorem State.putReply_active (s : State) (l : Link) (r : Reply) : (s.putReply l r).active = s.active := by simp [State.putReply]
@[simp] theorem State.putReply_revoking (s : State) (l : Link) (r : Reply) : (s.putReply l r).revoking = s.revoking := by simp [State.putReply]
@[simp] theorem State.putReply_fuses (s : State) (l : Link) (r : Reply) : (s.putReply l r).fuses = s.fuses := by simp [State.putReply]
@[simp] theorem State.putReply_fuseOp (s : State) (l : Link) (r : Reply) : (s.putReply l r).fuseOp = s.fuseOp := by simp [State.putReply]
@[simp] theorem State.putReply_reserved (s : State) (l : Link) (r : Reply) : (s.putReply l r).reserved = s.reserved := by simp [State.putReply]
@[simp] theorem State.putReply_classes (s : State) (l : Link) (r : Reply) : (s.putReply l r).classes = s.classes := by simp [State.putReply]
@[simp] theorem State.putReply_lines (s : State) (l : Link) (r : Reply) : (s.putReply l r).lines = s.lines := by simp [State.putReply]
@[simp] theorem State.putReply_window (s : State) (l : Link) (r : Reply) : (s.putReply l r).window = s.window := by simp [State.putReply]
@[simp] theorem State.putReply_faults (s : State) (l : Link) (r : Reply) : (s.putReply l r).faults = s.faults := by simp [State.putReply]
@[simp] theorem State.putReply_rom (s : State) (l : Link) (r : Reply) : (s.putReply l r).rom = s.rom := by simp [State.putReply]
@[simp] theorem State.putReply_resetNLow (s : State) (l : Link) (r : Reply) : (s.putReply l r).resetNLow = s.resetNLow := by simp [State.putReply]
@[simp] theorem State.putReply_supplyLow (s : State) (l : Link) (r : Reply) : (s.putReply l r).supplyLow = s.supplyLow := by simp [State.putReply]
@[simp] theorem State.putReply_spi (s : State) (l : Link) (r : Reply) : (s.putReply l r).spi = s.spi := by simp [State.putReply]
@[simp] theorem State.putReply_windowIgnored (s : State) (l : Link) (r : Reply) : (s.putReply l r).windowIgnored = s.windowIgnored := by simp [State.putReply]
@[simp] theorem State.putReply_pins (s : State) (l : Link) (r : Reply) : (s.putReply l r).pins = s.pins := by simp [State.putReply]
@[simp] theorem State.putReply_freeCount (s : State) (l : Link) (r : Reply) : (s.putReply l r).freeCount = s.freeCount := by simp [State.putReply]
@[simp] theorem State.putReply_pending (s : State) (l : Link) (r : Reply) : (s.putReply l r).pending = s.pending := by simp [State.putReply]

/-! What the updates write. -/

@[simp] theorem State.onLink_m_linkM (s : State) (f : LinkState → LinkState) :
    (s.onLink .m f).linkM = f s.linkM := rfl
@[simp] theorem State.onLink_m_linkE (s : State) (f : LinkState → LinkState) :
    (s.onLink .m f).linkE = s.linkE := rfl
@[simp] theorem State.onLink_e_linkE (s : State) (f : LinkState → LinkState) :
    (s.onLink .e f).linkE = f s.linkE := rfl
@[simp] theorem State.onLink_e_linkM (s : State) (f : LinkState → LinkState) :
    (s.onLink .e f).linkM = s.linkM := rfl
@[simp] theorem State.link_m (s : State) : s.link .m = s.linkM := rfl
@[simp] theorem State.link_e (s : State) : s.link .e = s.linkE := rfl
theorem State.link_onLink_self (s : State) (l : Link) (f : LinkState → LinkState) :
    (s.onLink l f).link l = f (s.link l) := by cases l <;> rfl
@[simp] theorem State.post_linkM (s : State) (f : EventFlag) :
    (s.post f).linkM = s.linkM.raise f := rfl
@[simp] theorem State.post_linkE (s : State) (f : EventFlag) :
    (s.post f).linkE = s.linkE.raise f := rfl
@[simp] theorem State.setSlot_slots (s : State) (i : Fin 12) (x : Slot) :
    (s.setSlot i x).slots = put s.slots i x := rfl
@[simp] theorem State.setClass_classes (s : State) (c : Fin 8) (x : ClassRec) :
    (s.setClass c x).classes = put s.classes c x := rfl
@[simp] theorem State.setCtx_ctxs (s : State) (x : Fin 4) (c : Option Claim) :
    (s.setCtx x c).ctxs = put s.ctxs x c := rfl
@[simp] theorem State.recordFault_faults (s : State) (r : FaultRecord) :
    (s.recordFault r).faults = storeFault s.faults { r with stamp := s.bootClock } := rfl
@[simp] theorem State.recordFault_linkM (s : State) (r : FaultRecord) :
    (s.recordFault r).linkM = s.linkM.raise .fault := rfl
@[simp] theorem State.recordFault_linkE (s : State) (r : FaultRecord) :
    (s.recordFault r).linkE = s.linkE.raise .fault := rfl
@[simp] theorem State.commit_linkM (s : State) : s.commit.linkM = s.linkM.close := rfl
@[simp] theorem State.commit_linkE (s : State) : s.commit.linkE = s.linkE.close := rfl
@[simp] theorem State.commit_pins (s : State) :
    s.commit.pins = ({ s with linkM := s.linkM.close, linkE := s.linkE.close } : State).drivenPins :=
  rfl

end Sys2Proof.Machine
end

