-- ==== Sys2Proof/Laws/Frames.lean ====
section
/-! SUPPORT. What each shared operation over several blocks leaves as it was, field by field. -/

namespace Sys2Proof.Machine

/-! The release of a slot's work (R18). -/
@[simp] theorem State.release_mode (s : State) (i : Fin 12) : (s.release i).mode = s.mode := rfl
@[simp] theorem State.release_verdict (s : State) (i : Fin 12) : (s.release i).verdict = s.verdict := rfl
@[simp] theorem State.release_cause (s : State) (i : Fin 12) : (s.release i).cause = s.cause := rfl
@[simp] theorem State.release_failedCount (s : State) (i : Fin 12) : (s.release i).failedCount = s.failedCount := rfl
@[simp] theorem State.release_bootClock (s : State) (i : Fin 12) : (s.release i).bootClock = s.bootClock := rfl
@[simp] theorem State.release_staging (s : State) (i : Fin 12) : (s.release i).staging = s.staging := rfl
@[simp] theorem State.release_inForce (s : State) (i : Fin 12) : (s.release i).inForce = s.inForce := rfl
@[simp] theorem State.release_restartPending (s : State) (i : Fin 12) : (s.release i).restartPending = s.restartPending := rfl
@[simp] theorem State.release_selfTest (s : State) (i : Fin 12) : (s.release i).selfTest = s.selfTest := rfl
@[simp] theorem State.release_core (s : State) (i : Fin 12) : (s.release i).core = s.core := rfl
@[simp] theorem State.release_active (s : State) (i : Fin 12) : (s.release i).active = s.active := rfl
@[simp] theorem State.release_revoking (s : State) (i : Fin 12) : (s.release i).revoking = s.revoking := rfl
@[simp] theorem State.release_fuses (s : State) (i : Fin 12) : (s.release i).fuses = s.fuses := rfl
@[simp] theorem State.release_fuseOp (s : State) (i : Fin 12) : (s.release i).fuseOp = s.fuseOp := rfl
@[simp] theorem State.release_reserved (s : State) (i : Fin 12) : (s.release i).reserved = s.reserved := rfl
@[simp] theorem State.release_classes (s : State) (i : Fin 12) : (s.release i).classes = s.classes := rfl
@[simp] theorem State.release_lines (s : State) (i : Fin 12) : (s.release i).lines = s.lines := rfl
@[simp] theorem State.release_window (s : State) (i : Fin 12) : (s.release i).window = s.window := rfl
@[simp] theorem State.release_linkM (s : State) (i : Fin 12) : (s.release i).linkM = s.linkM := rfl
@[simp] theorem State.release_linkE (s : State) (i : Fin 12) : (s.release i).linkE = s.linkE := rfl
@[simp] theorem State.release_faults (s : State) (i : Fin 12) : (s.release i).faults = s.faults := rfl
@[simp] theorem State.release_rom (s : State) (i : Fin 12) : (s.release i).rom = s.rom := rfl
@[simp] theorem State.release_resetNLow (s : State) (i : Fin 12) : (s.release i).resetNLow = s.resetNLow := rfl
@[simp] theorem State.release_supplyLow (s : State) (i : Fin 12) : (s.release i).supplyLow = s.supplyLow := rfl
@[simp] theorem State.release_spi (s : State) (i : Fin 12) : (s.release i).spi = s.spi := rfl
@[simp] theorem State.release_windowIgnored (s : State) (i : Fin 12) : (s.release i).windowIgnored = s.windowIgnored := rfl
@[simp] theorem State.release_pins (s : State) (i : Fin 12) : (s.release i).pins = s.pins := rfl
@[simp] theorem State.release_freeCount (s : State) (i : Fin 12) : (s.release i).freeCount = s.freeCount := rfl
@[simp] theorem State.release_pending (s : State) (i : Fin 12) : (s.release i).pending = s.pending := rfl

/-! A slot rejected (R16). -/
@[simp] theorem State.reject_mode (s : State) (i : Fin 12) (r : FaultCode) (g : Option Byte) (k : Option (Fin 10)) (d : List Byte) : (s.reject i r g k d).mode = s.mode := by simp only [State.reject]; split <;> simp
@[simp] theorem State.reject_verdict (s : State) (i : Fin 12) (r : FaultCode) (g : Option Byte) (k : Option (Fin 10)) (d : List Byte) : (s.reject i r g k d).verdict = s.verdict := by simp only [State.reject]; split <;> simp
@[simp] theorem State.reject_cause (s : State) (i : Fin 12) (r : FaultCode) (g : Option Byte) (k : Option (Fin 10)) (d : List Byte) : (s.reject i r g k d).cause = s.cause := by simp only [State.reject]; split <;> simp
@[simp] theorem State.reject_failedCount (s : State) (i : Fin 12) (r : FaultCode) (g : Option Byte) (k : Option (Fin 10)) (d : List Byte) : (s.reject i r g k d).failedCount = s.failedCount := by simp only [State.reject]; split <;> simp
@[simp] theorem State.reject_bootClock (s : State) (i : Fin 12) (r : FaultCode) (g : Option Byte) (k : Option (Fin 10)) (d : List Byte) : (s.reject i r g k d).bootClock = s.bootClock := by simp only [State.reject]; split <;> simp
@[simp] theorem State.reject_staging (s : State) (i : Fin 12) (r : FaultCode) (g : Option Byte) (k : Option (Fin 10)) (d : List Byte) : (s.reject i r g k d).staging = s.staging := by simp only [State.reject]; split <;> simp
@[simp] theorem State.reject_inForce (s : State) (i : Fin 12) (r : FaultCode) (g : Option Byte) (k : Option (Fin 10)) (d : List Byte) : (s.reject i r g k d).inForce = s.inForce := by simp only [State.reject]; split <;> simp
@[simp] theorem State.reject_restartPending (s : State) (i : Fin 12) (r : FaultCode) (g : Option Byte) (k : Option (Fin 10)) (d : List Byte) : (s.reject i r g k d).restartPending = s.restartPending := by simp only [State.reject]; split <;> simp
@[simp] theorem State.reject_selfTest (s : State) (i : Fin 12) (r : FaultCode) (g : Option Byte) (k : Option (Fin 10)) (d : List Byte) : (s.reject i r g k d).selfTest = s.selfTest := by simp only [State.reject]; split <;> simp
@[simp] theorem State.reject_core (s : State) (i : Fin 12) (r : FaultCode) (g : Option Byte) (k : Option (Fin 10)) (d : List Byte) : (s.reject i r g k d).core = s.core := by simp only [State.reject]; split <;> simp
@[simp] theorem State.reject_active (s : State) (i : Fin 12) (r : FaultCode) (g : Option Byte) (k : Option (Fin 10)) (d : List Byte) : (s.reject i r g k d).active = s.active := by simp only [State.reject]; split <;> simp
@[simp] theorem State.reject_revoking (s : State) (i : Fin 12) (r : FaultCode) (g : Option Byte) (k : Option (Fin 10)) (d : List Byte) : (s.reject i r g k d).revoking = s.revoking := by simp only [State.reject]; split <;> simp
@[simp] theorem State.reject_fuses (s : State) (i : Fin 12) (r : FaultCode) (g : Option Byte) (k : Option (Fin 10)) (d : List Byte) : (s.reject i r g k d).fuses = s.fuses := by simp only [State.reject]; split <;> simp
@[simp] theorem State.reject_fuseOp (s : State) (i : Fin 12) (r : FaultCode) (g : Option Byte) (k : Option (Fin 10)) (d : List Byte) : (s.reject i r g k d).fuseOp = s.fuseOp := by simp only [State.reject]; split <;> simp
@[simp] theorem State.reject_reserved (s : State) (i : Fin 12) (r : FaultCode) (g : Option Byte) (k : Option (Fin 10)) (d : List Byte) : (s.reject i r g k d).reserved = s.reserved := by simp only [State.reject]; split <;> simp
@[simp] theorem State.reject_classes (s : State) (i : Fin 12) (r : FaultCode) (g : Option Byte) (k : Option (Fin 10)) (d : List Byte) : (s.reject i r g k d).classes = s.classes := by simp only [State.reject]; split <;> simp
@[simp] theorem State.reject_lines (s : State) (i : Fin 12) (r : FaultCode) (g : Option Byte) (k : Option (Fin 10)) (d : List Byte) : (s.reject i r g k d).lines = s.lines := by simp only [State.reject]; split <;> simp
@[simp] theorem State.reject_window (s : State) (i : Fin 12) (r : FaultCode) (g : Option Byte) (k : Option (Fin 10)) (d : List Byte) : (s.reject i r g k d).window = s.window := by simp only [State.reject]; split <;> simp
@[simp] theorem State.reject_rom (s : State) (i : Fin 12) (r : FaultCode) (g : Option Byte) (k : Option (Fin 10)) (d : List Byte) : (s.reject i r g k d).rom = s.rom := by simp only [State.reject]; split <;> simp
@[simp] theorem State.reject_resetNLow (s : State) (i : Fin 12) (r : FaultCode) (g : Option Byte) (k : Option (Fin 10)) (d : List Byte) : (s.reject i r g k d).resetNLow = s.resetNLow := by simp only [State.reject]; split <;> simp
@[simp] theorem State.reject_supplyLow (s : State) (i : Fin 12) (r : FaultCode) (g : Option Byte) (k : Option (Fin 10)) (d : List Byte) : (s.reject i r g k d).supplyLow = s.supplyLow := by simp only [State.reject]; split <;> simp
@[simp] theorem State.reject_spi (s : State) (i : Fin 12) (r : FaultCode) (g : Option Byte) (k : Option (Fin 10)) (d : List Byte) : (s.reject i r g k d).spi = s.spi := by simp only [State.reject]; split <;> simp
@[simp] theorem State.reject_windowIgnored (s : State) (i : Fin 12) (r : FaultCode) (g : Option Byte) (k : Option (Fin 10)) (d : List Byte) : (s.reject i r g k d).windowIgnored = s.windowIgnored := by simp only [State.reject]; split <;> simp
@[simp] theorem State.reject_pins (s : State) (i : Fin 12) (r : FaultCode) (g : Option Byte) (k : Option (Fin 10)) (d : List Byte) : (s.reject i r g k d).pins = s.pins := by simp only [State.reject]; split <;> simp
@[simp] theorem State.reject_freeCount (s : State) (i : Fin 12) (r : FaultCode) (g : Option Byte) (k : Option (Fin 10)) (d : List Byte) : (s.reject i r g k d).freeCount = s.freeCount := by simp only [State.reject]; split <;> simp
@[simp] theorem State.reject_pending (s : State) (i : Fin 12) (r : FaultCode) (g : Option Byte) (k : Option (Fin 10)) (d : List Byte) : (s.reject i r g k d).pending = s.pending := by simp only [State.reject]; split <;> simp

/-! A rejection order (R17). -/
@[simp] theorem State.rejectAll_mode (s : State) (ns : List (Fin 12)) (r : FaultCode) (k : Option (Fin 10)) : (s.rejectAll ns r k).mode = s.mode := by
  unfold State.rejectAll; induction ns generalizing s <;> simp_all
@[simp] theorem State.rejectAll_verdict (s : State) (ns : List (Fin 12)) (r : FaultCode) (k : Option (Fin 10)) : (s.rejectAll ns r k).verdict = s.verdict := by
  unfold State.rejectAll; induction ns generalizing s <;> simp_all
@[simp] theorem State.rejectAll_cause (s : State) (ns : List (Fin 12)) (r : FaultCode) (k : Option (Fin 10)) : (s.rejectAll ns r k).cause = s.cause := by
  unfold State.rejectAll; induction ns generalizing s <;> simp_all
@[simp] theorem State.rejectAll_failedCount (s : State) (ns : List (Fin 12)) (r : FaultCode) (k : Option (Fin 10)) : (s.rejectAll ns r k).failedCount = s.failedCount := by
  unfold State.rejectAll; induction ns generalizing s <;> simp_all
@[simp] theorem State.rejectAll_bootClock (s : State) (ns : List (Fin 12)) (r : FaultCode) (k : Option (Fin 10)) : (s.rejectAll ns r k).bootClock = s.bootClock := by
  unfold State.rejectAll; induction ns generalizing s <;> simp_all
@[simp] theorem State.rejectAll_staging (s : State) (ns : List (Fin 12)) (r : FaultCode) (k : Option (Fin 10)) : (s.rejectAll ns r k).staging = s.staging := by
  unfold State.rejectAll; induction ns generalizing s <;> simp_all
@[simp] theorem State.rejectAll_inForce (s : State) (ns : List (Fin 12)) (r : FaultCode) (k : Option (Fin 10)) : (s.rejectAll ns r k).inForce = s.inForce := by
  unfold State.rejectAll; induction ns generalizing s <;> simp_all
@[simp] theorem State.rejectAll_restartPending (s : State) (ns : List (Fin 12)) (r : FaultCode) (k : Option (Fin 10)) : (s.rejectAll ns r k).restartPending = s.restartPending := by
  unfold State.rejectAll; induction ns generalizing s <;> simp_all
@[simp] theorem State.rejectAll_selfTest (s : State) (ns : List (Fin 12)) (r : FaultCode) (k : Option (Fin 10)) : (s.rejectAll ns r k).selfTest = s.selfTest := by
  unfold State.rejectAll; induction ns generalizing s <;> simp_all
@[simp] theorem State.rejectAll_core (s : State) (ns : List (Fin 12)) (r : FaultCode) (k : Option (Fin 10)) : (s.rejectAll ns r k).core = s.core := by
  unfold State.rejectAll; induction ns generalizing s <;> simp_all
@[simp] theorem State.rejectAll_active (s : State) (ns : List (Fin 12)) (r : FaultCode) (k : Option (Fin 10)) : (s.rejectAll ns r k).active = s.active := by
  unfold State.rejectAll; induction ns generalizing s <;> simp_all
@[simp] theorem State.rejectAll_revoking (s : State) (ns : List (Fin 12)) (r : FaultCode) (k : Option (Fin 10)) : (s.rejectAll ns r k).revoking = s.revoking := by
  unfold State.rejectAll; induction ns generalizing s <;> simp_all
@[simp] theorem State.rejectAll_fuses (s : State) (ns : List (Fin 12)) (r : FaultCode) (k : Option (Fin 10)) : (s.rejectAll ns r k).fuses = s.fuses := by
  unfold State.rejectAll; induction ns generalizing s <;> simp_all
@[simp] theorem State.rejectAll_fuseOp (s : State) (ns : List (Fin 12)) (r : FaultCode) (k : Option (Fin 10)) : (s.rejectAll ns r k).fuseOp = s.fuseOp := by
  unfold State.rejectAll; induction ns generalizing s <;> simp_all
@[simp] theorem State.rejectAll_reserved (s : State) (ns : List (Fin 12)) (r : FaultCode) (k : Option (Fin 10)) : (s.rejectAll ns r k).reserved = s.reserved := by
  unfold State.rejectAll; induction ns generalizing s <;> simp_all
@[simp] theorem State.rejectAll_classes (s : State) (ns : List (Fin 12)) (r : FaultCode) (k : Option (Fin 10)) : (s.rejectAll ns r k).classes = s.classes := by
  unfold State.rejectAll; induction ns generalizing s <;> simp_all
@[simp] theorem State.rejectAll_lines (s : State) (ns : List (Fin 12)) (r : FaultCode) (k : Option (Fin 10)) : (s.rejectAll ns r k).lines = s.lines := by
  unfold State.rejectAll; induction ns generalizing s <;> simp_all
@[simp] theorem State.rejectAll_window (s : State) (ns : List (Fin 12)) (r : FaultCode) (k : Option (Fin 10)) : (s.rejectAll ns r k).window = s.window := by
  unfold State.rejectAll; induction ns generalizing s <;> simp_all
@[simp] theorem State.rejectAll_rom (s : State) (ns : List (Fin 12)) (r : FaultCode) (k : Option (Fin 10)) : (s.rejectAll ns r k).rom = s.rom := by
  unfold State.rejectAll; induction ns generalizing s <;> simp_all
@[simp] theorem State.rejectAll_resetNLow (s : State) (ns : List (Fin 12)) (r : FaultCode) (k : Option (Fin 10)) : (s.rejectAll ns r k).resetNLow = s.resetNLow := by
  unfold State.rejectAll; induction ns generalizing s <;> simp_all
@[simp] theorem State.rejectAll_supplyLow (s : State) (ns : List (Fin 12)) (r : FaultCode) (k : Option (Fin 10)) : (s.rejectAll ns r k).supplyLow = s.supplyLow := by
  unfold State.rejectAll; induction ns generalizing s <;> simp_all
@[simp] theorem State.rejectAll_spi (s : State) (ns : List (Fin 12)) (r : FaultCode) (k : Option (Fin 10)) : (s.rejectAll ns r k).spi = s.spi := by
  unfold State.rejectAll; induction ns generalizing s <;> simp_all
@[simp] theorem State.rejectAll_windowIgnored (s : State) (ns : List (Fin 12)) (r : FaultCode) (k : Option (Fin 10)) : (s.rejectAll ns r k).windowIgnored = s.windowIgnored := by
  unfold State.rejectAll; induction ns generalizing s <;> simp_all
@[simp] theorem State.rejectAll_pins (s : State) (ns : List (Fin 12)) (r : FaultCode) (k : Option (Fin 10)) : (s.rejectAll ns r k).pins = s.pins := by
  unfold State.rejectAll; induction ns generalizing s <;> simp_all
@[simp] theorem State.rejectAll_freeCount (s : State) (ns : List (Fin 12)) (r : FaultCode) (k : Option (Fin 10)) : (s.rejectAll ns r k).freeCount = s.freeCount := by
  unfold State.rejectAll; induction ns generalizing s <;> simp_all
@[simp] theorem State.rejectAll_pending (s : State) (ns : List (Fin 12)) (r : FaultCode) (k : Option (Fin 10)) : (s.rejectAll ns r k).pending = s.pending := by
  unfold State.rejectAll; induction ns generalizing s <;> simp_all

/-! New lines (R118). -/
@[simp] theorem State.moveLines_mode (s : State) (v : Vector LineRec 6) : (s.moveLines v).mode = s.mode := by unfold State.moveLines; split <;> simp
@[simp] theorem State.moveLines_verdict (s : State) (v : Vector LineRec 6) : (s.moveLines v).verdict = s.verdict := by unfold State.moveLines; split <;> simp
@[simp] theorem State.moveLines_cause (s : State) (v : Vector LineRec 6) : (s.moveLines v).cause = s.cause := by unfold State.moveLines; split <;> simp
@[simp] theorem State.moveLines_failedCount (s : State) (v : Vector LineRec 6) : (s.moveLines v).failedCount = s.failedCount := by unfold State.moveLines; split <;> simp
@[simp] theorem State.moveLines_bootClock (s : State) (v : Vector LineRec 6) : (s.moveLines v).bootClock = s.bootClock := by unfold State.moveLines; split <;> simp
@[simp] theorem State.moveLines_staging (s : State) (v : Vector LineRec 6) : (s.moveLines v).staging = s.staging := by unfold State.moveLines; split <;> simp
@[simp] theorem State.moveLines_inForce (s : State) (v : Vector LineRec 6) : (s.moveLines v).inForce = s.inForce := by unfold State.moveLines; split <;> simp
@[simp] theorem State.moveLines_restartPending (s : State) (v : Vector LineRec 6) : (s.moveLines v).restartPending = s.restartPending := by unfold State.moveLines; split <;> simp
@[simp] theorem State.moveLines_selfTest (s : State) (v : Vector LineRec 6) : (s.moveLines v).selfTest = s.selfTest := by unfold State.moveLines; split <;> simp
@[simp] theorem State.moveLines_slots (s : State) (v : Vector LineRec 6) : (s.moveLines v).slots = s.slots := by unfold State.moveLines; split <;> simp
@[simp] theorem State.moveLines_ctxs (s : State) (v : Vector LineRec 6) : (s.moveLines v).ctxs = s.ctxs := by unfold State.moveLines; split <;> simp
@[simp] theorem State.moveLines_chunkQueue (s : State) (v : Vector LineRec 6) : (s.moveLines v).chunkQueue = s.chunkQueue := by unfold State.moveLines; split <;> simp
@[simp] theorem State.moveLines_core (s : State) (v : Vector LineRec 6) : (s.moveLines v).core = s.core := by unfold State.moveLines; split <;> simp
@[simp] theorem State.moveLines_jobs (s : State) (v : Vector LineRec 6) : (s.moveLines v).jobs = s.jobs := by unfold State.moveLines; split <;> simp
@[simp] theorem State.moveLines_active (s : State) (v : Vector LineRec 6) : (s.moveLines v).active = s.active := by unfold State.moveLines; split <;> simp
@[simp] theorem State.moveLines_revoking (s : State) (v : Vector LineRec 6) : (s.moveLines v).revoking = s.revoking := by unfold State.moveLines; split <;> simp
@[simp] theorem State.moveLines_fuses (s : State) (v : Vector LineRec 6) : (s.moveLines v).fuses = s.fuses := by unfold State.moveLines; split <;> simp
@[simp] theorem State.moveLines_fuseOp (s : State) (v : Vector LineRec 6) : (s.moveLines v).fuseOp = s.fuseOp := by unfold State.moveLines; split <;> simp
@[simp] theorem State.moveLines_reserved (s : State) (v : Vector LineRec 6) : (s.moveLines v).reserved = s.reserved := by unfold State.moveLines; split <;> simp
@[simp] theorem State.moveLines_classes (s : State) (v : Vector LineRec 6) : (s.moveLines v).classes = s.classes := by unfold State.moveLines; split <;> simp
@[simp] theorem State.moveLines_window (s : State) (v : Vector LineRec 6) : (s.moveLines v).window = s.window := by unfold State.moveLines; split <;> simp
@[simp] theorem State.moveLines_faults (s : State) (v : Vector LineRec 6) : (s.moveLines v).faults = s.faults := by unfold State.moveLines; split <;> simp
@[simp] theorem State.moveLines_rom (s : State) (v : Vector LineRec 6) : (s.moveLines v).rom = s.rom := by unfold State.moveLines; split <;> simp
@[simp] theorem State.moveLines_resetNLow (s : State) (v : Vector LineRec 6) : (s.moveLines v).resetNLow = s.resetNLow := by unfold State.moveLines; split <;> simp
@[simp] theorem State.moveLines_supplyLow (s : State) (v : Vector LineRec 6) : (s.moveLines v).supplyLow = s.supplyLow := by unfold State.moveLines; split <;> simp
@[simp] theorem State.moveLines_spi (s : State) (v : Vector LineRec 6) : (s.moveLines v).spi = s.spi := by unfold State.moveLines; split <;> simp
@[simp] theorem State.moveLines_windowIgnored (s : State) (v : Vector LineRec 6) : (s.moveLines v).windowIgnored = s.windowIgnored := by unfold State.moveLines; split <;> simp
@[simp] theorem State.moveLines_pins (s : State) (v : Vector LineRec 6) : (s.moveLines v).pins = s.pins := by unfold State.moveLines; split <;> simp
@[simp] theorem State.moveLines_freeCount (s : State) (v : Vector LineRec 6) : (s.moveLines v).freeCount = s.freeCount := by unfold State.moveLines; split <;> simp
@[simp] theorem State.moveLines_pending (s : State) (v : Vector LineRec 6) : (s.moveLines v).pending = s.pending := by unfold State.moveLines; split <;> simp

/-! The entry to SETTLED (R121). -/
@[simp] theorem State.settle_cause (s : State) : (s.settle).cause = s.cause := by simp [State.settle]
@[simp] theorem State.settle_bootClock (s : State) : (s.settle).bootClock = s.bootClock := by simp [State.settle]
@[simp] theorem State.settle_staging (s : State) : (s.settle).staging = s.staging := by simp [State.settle]
@[simp] theorem State.settle_inForce (s : State) : (s.settle).inForce = s.inForce := by simp [State.settle]
@[simp] theorem State.settle_restartPending (s : State) : (s.settle).restartPending = s.restartPending := by simp [State.settle]
@[simp] theorem State.settle_selfTest (s : State) : (s.settle).selfTest = s.selfTest := by simp [State.settle]
@[simp] theorem State.settle_core (s : State) : (s.settle).core = s.core := by simp [State.settle]
@[simp] theorem State.settle_active (s : State) : (s.settle).active = s.active := by simp [State.settle]
@[simp] theorem State.settle_revoking (s : State) : (s.settle).revoking = s.revoking := by simp [State.settle]
@[simp] theorem State.settle_fuses (s : State) : (s.settle).fuses = s.fuses := by simp [State.settle]
@[simp] theorem State.settle_fuseOp (s : State) : (s.settle).fuseOp = s.fuseOp := by simp [State.settle]
@[simp] theorem State.settle_reserved (s : State) : (s.settle).reserved = s.reserved := by simp [State.settle]
@[simp] theorem State.settle_classes (s : State) : (s.settle).classes = s.classes := by simp [State.settle]
@[simp] theorem State.settle_lines (s : State) : (s.settle).lines = s.lines := by simp [State.settle]
@[simp] theorem State.settle_rom (s : State) : (s.settle).rom = s.rom := by simp [State.settle]
@[simp] theorem State.settle_resetNLow (s : State) : (s.settle).resetNLow = s.resetNLow := by simp [State.settle]
@[simp] theorem State.settle_supplyLow (s : State) : (s.settle).supplyLow = s.supplyLow := by simp [State.settle]
@[simp] theorem State.settle_spi (s : State) : (s.settle).spi = s.spi := by simp [State.settle]
@[simp] theorem State.settle_windowIgnored (s : State) : (s.settle).windowIgnored = s.windowIgnored := by simp [State.settle]
@[simp] theorem State.settle_pins (s : State) : (s.settle).pins = s.pins := by simp [State.settle]
@[simp] theorem State.settle_freeCount (s : State) : (s.settle).freeCount = s.freeCount := by simp [State.settle]
@[simp] theorem State.settle_pending (s : State) : (s.settle).pending = s.pending := by simp [State.settle]

/-! Whether the part settles (R120). -/
@[simp] theorem State.settleIfDecided_cause (s : State) : (s.settleIfDecided).cause = s.cause := by unfold State.settleIfDecided; split <;> simp
@[simp] theorem State.settleIfDecided_bootClock (s : State) : (s.settleIfDecided).bootClock = s.bootClock := by unfold State.settleIfDecided; split <;> simp
@[simp] theorem State.settleIfDecided_staging (s : State) : (s.settleIfDecided).staging = s.staging := by unfold State.settleIfDecided; split <;> simp
@[simp] theorem State.settleIfDecided_inForce (s : State) : (s.settleIfDecided).inForce = s.inForce := by unfold State.settleIfDecided; split <;> simp
@[simp] theorem State.settleIfDecided_restartPending (s : State) : (s.settleIfDecided).restartPending = s.restartPending := by unfold State.settleIfDecided; split <;> simp
@[simp] theorem State.settleIfDecided_selfTest (s : State) : (s.settleIfDecided).selfTest = s.selfTest := by unfold State.settleIfDecided; split <;> simp
@[simp] theorem State.settleIfDecided_core (s : State) : (s.settleIfDecided).core = s.core := by unfold State.settleIfDecided; split <;> simp
@[simp] theorem State.settleIfDecided_active (s : State) : (s.settleIfDecided).active = s.active := by unfold State.settleIfDecided; split <;> simp
@[simp] theorem State.settleIfDecided_revoking (s : State) : (s.settleIfDecided).revoking = s.revoking := by unfold State.settleIfDecided; split <;> simp
@[simp] theorem State.settleIfDecided_fuses (s : State) : (s.settleIfDecided).fuses = s.fuses := by unfold State.settleIfDecided; split <;> simp
@[simp] theorem State.settleIfDecided_fuseOp (s : State) : (s.settleIfDecided).fuseOp = s.fuseOp := by unfold State.settleIfDecided; split <;> simp
@[simp] theorem State.settleIfDecided_reserved (s : State) : (s.settleIfDecided).reserved = s.reserved := by unfold State.settleIfDecided; split <;> simp
@[simp] theorem State.settleIfDecided_classes (s : State) : (s.settleIfDecided).classes = s.classes := by unfold State.settleIfDecided; split <;> simp
@[simp] theorem State.settleIfDecided_lines (s : State) : (s.settleIfDecided).lines = s.lines := by unfold State.settleIfDecided; split <;> simp
@[simp] theorem State.settleIfDecided_rom (s : State) : (s.settleIfDecided).rom = s.rom := by unfold State.settleIfDecided; split <;> simp
@[simp] theorem State.settleIfDecided_resetNLow (s : State) : (s.settleIfDecided).resetNLow = s.resetNLow := by unfold State.settleIfDecided; split <;> simp
@[simp] theorem State.settleIfDecided_supplyLow (s : State) : (s.settleIfDecided).supplyLow = s.supplyLow := by unfold State.settleIfDecided; split <;> simp
@[simp] theorem State.settleIfDecided_spi (s : State) : (s.settleIfDecided).spi = s.spi := by unfold State.settleIfDecided; split <;> simp
@[simp] theorem State.settleIfDecided_windowIgnored (s : State) : (s.settleIfDecided).windowIgnored = s.windowIgnored := by unfold State.settleIfDecided; split <;> simp
@[simp] theorem State.settleIfDecided_pins (s : State) : (s.settleIfDecided).pins = s.pins := by unfold State.settleIfDecided; split <;> simp
@[simp] theorem State.settleIfDecided_freeCount (s : State) : (s.settleIfDecided).freeCount = s.freeCount := by unfold State.settleIfDecided; split <;> simp
@[simp] theorem State.settleIfDecided_pending (s : State) : (s.settleIfDecided).pending = s.pending := by unfold State.settleIfDecided; split <;> simp

/-! The release gate (R118). -/
@[simp] theorem State.gate_cause (s : State) : (s.gate).cause = s.cause := by simp [State.gate]
@[simp] theorem State.gate_bootClock (s : State) : (s.gate).bootClock = s.bootClock := by simp [State.gate]
@[simp] theorem State.gate_staging (s : State) : (s.gate).staging = s.staging := by simp [State.gate]
@[simp] theorem State.gate_inForce (s : State) : (s.gate).inForce = s.inForce := by simp [State.gate]
@[simp] theorem State.gate_restartPending (s : State) : (s.gate).restartPending = s.restartPending := by simp [State.gate]
@[simp] theorem State.gate_selfTest (s : State) : (s.gate).selfTest = s.selfTest := by simp [State.gate]
@[simp] theorem State.gate_core (s : State) : (s.gate).core = s.core := by simp [State.gate]
@[simp] theorem State.gate_active (s : State) : (s.gate).active = s.active := by simp [State.gate]
@[simp] theorem State.gate_revoking (s : State) : (s.gate).revoking = s.revoking := by simp [State.gate]
@[simp] theorem State.gate_fuses (s : State) : (s.gate).fuses = s.fuses := by simp [State.gate]
@[simp] theorem State.gate_fuseOp (s : State) : (s.gate).fuseOp = s.fuseOp := by simp [State.gate]
@[simp] theorem State.gate_reserved (s : State) : (s.gate).reserved = s.reserved := by simp [State.gate]
@[simp] theorem State.gate_classes (s : State) : (s.gate).classes = s.classes := by simp [State.gate]
@[simp] theorem State.gate_rom (s : State) : (s.gate).rom = s.rom := by simp [State.gate]
@[simp] theorem State.gate_resetNLow (s : State) : (s.gate).resetNLow = s.resetNLow := by simp [State.gate]
@[simp] theorem State.gate_supplyLow (s : State) : (s.gate).supplyLow = s.supplyLow := by simp [State.gate]
@[simp] theorem State.gate_spi (s : State) : (s.gate).spi = s.spi := by simp [State.gate]
@[simp] theorem State.gate_windowIgnored (s : State) : (s.gate).windowIgnored = s.windowIgnored := by simp [State.gate]
@[simp] theorem State.gate_pins (s : State) : (s.gate).pins = s.pins := by simp [State.gate]
@[simp] theorem State.gate_freeCount (s : State) : (s.gate).freeCount = s.freeCount := by simp [State.gate]
@[simp] theorem State.gate_pending (s : State) : (s.gate).pending = s.pending := by simp [State.gate]

/-! The exhausted classes close (R111). -/
@[simp] theorem State.closeExhausted_cause (b s : State) : (b.closeExhausted s).cause = s.cause := by unfold State.closeExhausted; split <;> simp
@[simp] theorem State.closeExhausted_bootClock (b s : State) : (b.closeExhausted s).bootClock = s.bootClock := by unfold State.closeExhausted; split <;> simp
@[simp] theorem State.closeExhausted_staging (b s : State) : (b.closeExhausted s).staging = s.staging := by unfold State.closeExhausted; split <;> simp
@[simp] theorem State.closeExhausted_inForce (b s : State) : (b.closeExhausted s).inForce = s.inForce := by unfold State.closeExhausted; split <;> simp
@[simp] theorem State.closeExhausted_restartPending (b s : State) : (b.closeExhausted s).restartPending = s.restartPending := by unfold State.closeExhausted; split <;> simp
@[simp] theorem State.closeExhausted_selfTest (b s : State) : (b.closeExhausted s).selfTest = s.selfTest := by unfold State.closeExhausted; split <;> simp
@[simp] theorem State.closeExhausted_core (b s : State) : (b.closeExhausted s).core = s.core := by unfold State.closeExhausted; split <;> simp
@[simp] theorem State.closeExhausted_active (b s : State) : (b.closeExhausted s).active = s.active := by unfold State.closeExhausted; split <;> simp
@[simp] theorem State.closeExhausted_revoking (b s : State) : (b.closeExhausted s).revoking = s.revoking := by unfold State.closeExhausted; split <;> simp
@[simp] theorem State.closeExhausted_fuses (b s : State) : (b.closeExhausted s).fuses = s.fuses := by unfold State.closeExhausted; split <;> simp
@[simp] theorem State.closeExhausted_fuseOp (b s : State) : (b.closeExhausted s).fuseOp = s.fuseOp := by unfold State.closeExhausted; split <;> simp
@[simp] theorem State.closeExhausted_reserved (b s : State) : (b.closeExhausted s).reserved = s.reserved := by unfold State.closeExhausted; split <;> simp
@[simp] theorem State.closeExhausted_rom (b s : State) : (b.closeExhausted s).rom = s.rom := by unfold State.closeExhausted; split <;> simp
@[simp] theorem State.closeExhausted_resetNLow (b s : State) : (b.closeExhausted s).resetNLow = s.resetNLow := by unfold State.closeExhausted; split <;> simp
@[simp] theorem State.closeExhausted_supplyLow (b s : State) : (b.closeExhausted s).supplyLow = s.supplyLow := by unfold State.closeExhausted; split <;> simp
@[simp] theorem State.closeExhausted_spi (b s : State) : (b.closeExhausted s).spi = s.spi := by unfold State.closeExhausted; split <;> simp
@[simp] theorem State.closeExhausted_windowIgnored (b s : State) : (b.closeExhausted s).windowIgnored = s.windowIgnored := by unfold State.closeExhausted; split <;> simp
@[simp] theorem State.closeExhausted_pins (b s : State) : (b.closeExhausted s).pins = s.pins := by unfold State.closeExhausted; split <;> simp
@[simp] theorem State.closeExhausted_freeCount (b s : State) : (b.closeExhausted s).freeCount = s.freeCount := by unfold State.closeExhausted; split <;> simp
@[simp] theorem State.closeExhausted_pending (b s : State) : (b.closeExhausted s).pending = s.pending := by unfold State.closeExhausted; split <;> simp

/-! The end of an event that moved slots (R106, R118). -/
@[simp] theorem State.conclude_cause (b s : State) : (b.conclude s).cause = s.cause := by simp only [State.conclude]; split <;> simp
@[simp] theorem State.conclude_bootClock (b s : State) : (b.conclude s).bootClock = s.bootClock := by simp only [State.conclude]; split <;> simp
@[simp] theorem State.conclude_staging (b s : State) : (b.conclude s).staging = s.staging := by simp only [State.conclude]; split <;> simp
@[simp] theorem State.conclude_inForce (b s : State) : (b.conclude s).inForce = s.inForce := by simp only [State.conclude]; split <;> simp
@[simp] theorem State.conclude_restartPending (b s : State) : (b.conclude s).restartPending = s.restartPending := by simp only [State.conclude]; split <;> simp
@[simp] theorem State.conclude_selfTest (b s : State) : (b.conclude s).selfTest = s.selfTest := by simp only [State.conclude]; split <;> simp
@[simp] theorem State.conclude_core (b s : State) : (b.conclude s).core = s.core := by simp only [State.conclude]; split <;> simp
@[simp] theorem State.conclude_active (b s : State) : (b.conclude s).active = s.active := by simp only [State.conclude]; split <;> simp
@[simp] theorem State.conclude_revoking (b s : State) : (b.conclude s).revoking = s.revoking := by simp only [State.conclude]; split <;> simp
@[simp] theorem State.conclude_fuses (b s : State) : (b.conclude s).fuses = s.fuses := by simp only [State.conclude]; split <;> simp
@[simp] theorem State.conclude_fuseOp (b s : State) : (b.conclude s).fuseOp = s.fuseOp := by simp only [State.conclude]; split <;> simp
@[simp] theorem State.conclude_reserved (b s : State) : (b.conclude s).reserved = s.reserved := by simp only [State.conclude]; split <;> simp
@[simp] theorem State.conclude_rom (b s : State) : (b.conclude s).rom = s.rom := by simp only [State.conclude]; split <;> simp
@[simp] theorem State.conclude_resetNLow (b s : State) : (b.conclude s).resetNLow = s.resetNLow := by simp only [State.conclude]; split <;> simp
@[simp] theorem State.conclude_supplyLow (b s : State) : (b.conclude s).supplyLow = s.supplyLow := by simp only [State.conclude]; split <;> simp
@[simp] theorem State.conclude_spi (b s : State) : (b.conclude s).spi = s.spi := by simp only [State.conclude]; split <;> simp
@[simp] theorem State.conclude_windowIgnored (b s : State) : (b.conclude s).windowIgnored = s.windowIgnored := by simp only [State.conclude]; split <;> simp
@[simp] theorem State.conclude_pins (b s : State) : (b.conclude s).pins = s.pins := by simp only [State.conclude]; split <;> simp
@[simp] theorem State.conclude_freeCount (b s : State) : (b.conclude s).freeCount = s.freeCount := by simp only [State.conclude]; split <;> simp
@[simp] theorem State.conclude_pending (b s : State) : (b.conclude s).pending = s.pending := by simp only [State.conclude]; split <;> simp

/-! A slot enters VERIFIED (R19, R110). -/
@[simp] theorem State.verifySlot_cause (s : State) (i : Fin 12) : (s.verifySlot i).cause = s.cause := by
  simp only [State.verifySlot]; split <;> simp
@[simp] theorem State.verifySlot_bootClock (s : State) (i : Fin 12) : (s.verifySlot i).bootClock = s.bootClock := by
  simp only [State.verifySlot]; split <;> simp
@[simp] theorem State.verifySlot_staging (s : State) (i : Fin 12) : (s.verifySlot i).staging = s.staging := by
  simp only [State.verifySlot]; split <;> simp
@[simp] theorem State.verifySlot_inForce (s : State) (i : Fin 12) : (s.verifySlot i).inForce = s.inForce := by
  simp only [State.verifySlot]; split <;> simp
@[simp] theorem State.verifySlot_restartPending (s : State) (i : Fin 12) : (s.verifySlot i).restartPending = s.restartPending := by
  simp only [State.verifySlot]; split <;> simp
@[simp] theorem State.verifySlot_selfTest (s : State) (i : Fin 12) : (s.verifySlot i).selfTest = s.selfTest := by
  simp only [State.verifySlot]; split <;> simp
@[simp] theorem State.verifySlot_core (s : State) (i : Fin 12) : (s.verifySlot i).core = s.core := by
  simp only [State.verifySlot]; split <;> simp
@[simp] theorem State.verifySlot_active (s : State) (i : Fin 12) : (s.verifySlot i).active = s.active := by
  simp only [State.verifySlot]; split <;> simp
@[simp] theorem State.verifySlot_revoking (s : State) (i : Fin 12) : (s.verifySlot i).revoking = s.revoking := by
  simp only [State.verifySlot]; split <;> simp
@[simp] theorem State.verifySlot_fuses (s : State) (i : Fin 12) : (s.verifySlot i).fuses = s.fuses := by
  simp only [State.verifySlot]; split <;> simp
@[simp] theorem State.verifySlot_fuseOp (s : State) (i : Fin 12) : (s.verifySlot i).fuseOp = s.fuseOp := by
  simp only [State.verifySlot]; split <;> simp
@[simp] theorem State.verifySlot_reserved (s : State) (i : Fin 12) : (s.verifySlot i).reserved = s.reserved := by
  simp only [State.verifySlot]; split <;> simp
@[simp] theorem State.verifySlot_rom (s : State) (i : Fin 12) : (s.verifySlot i).rom = s.rom := by
  simp only [State.verifySlot]; split <;> simp
@[simp] theorem State.verifySlot_resetNLow (s : State) (i : Fin 12) : (s.verifySlot i).resetNLow = s.resetNLow := by
  simp only [State.verifySlot]; split <;> simp
@[simp] theorem State.verifySlot_supplyLow (s : State) (i : Fin 12) : (s.verifySlot i).supplyLow = s.supplyLow := by
  simp only [State.verifySlot]; split <;> simp
@[simp] theorem State.verifySlot_spi (s : State) (i : Fin 12) : (s.verifySlot i).spi = s.spi := by
  simp only [State.verifySlot]; split <;> simp
@[simp] theorem State.verifySlot_windowIgnored (s : State) (i : Fin 12) : (s.verifySlot i).windowIgnored = s.windowIgnored := by
  simp only [State.verifySlot]; split <;> simp
@[simp] theorem State.verifySlot_pins (s : State) (i : Fin 12) : (s.verifySlot i).pins = s.pins := by
  simp only [State.verifySlot]; split <;> simp
@[simp] theorem State.verifySlot_freeCount (s : State) (i : Fin 12) : (s.verifySlot i).freeCount = s.freeCount := by
  simp only [State.verifySlot]; split <;> simp
@[simp] theorem State.verifySlot_pending (s : State) (i : Fin 12) : (s.verifySlot i).pending = s.pending := by
  simp only [State.verifySlot]; split <;> simp

/-! A manifest job's report (R20). -/
@[simp] theorem State.jobReport_cause (s : State) (i : Fin 12) (g : Byte) (r : JobResult) : (s.jobReport i g r).cause = s.cause := by
  unfold State.jobReport; split
  · cases r <;> simp only [] <;> (try split) <;> simp
  · rfl
@[simp] theorem State.jobReport_bootClock (s : State) (i : Fin 12) (g : Byte) (r : JobResult) : (s.jobReport i g r).bootClock = s.bootClock := by
  unfold State.jobReport; split
  · cases r <;> simp only [] <;> (try split) <;> simp
  · rfl
@[simp] theorem State.jobReport_staging (s : State) (i : Fin 12) (g : Byte) (r : JobResult) : (s.jobReport i g r).staging = s.staging := by
  unfold State.jobReport; split
  · cases r <;> simp only [] <;> (try split) <;> simp
  · rfl
@[simp] theorem State.jobReport_inForce (s : State) (i : Fin 12) (g : Byte) (r : JobResult) : (s.jobReport i g r).inForce = s.inForce := by
  unfold State.jobReport; split
  · cases r <;> simp only [] <;> (try split) <;> simp
  · rfl
@[simp] theorem State.jobReport_restartPending (s : State) (i : Fin 12) (g : Byte) (r : JobResult) : (s.jobReport i g r).restartPending = s.restartPending := by
  unfold State.jobReport; split
  · cases r <;> simp only [] <;> (try split) <;> simp
  · rfl
@[simp] theorem State.jobReport_selfTest (s : State) (i : Fin 12) (g : Byte) (r : JobResult) : (s.jobReport i g r).selfTest = s.selfTest := by
  unfold State.jobReport; split
  · cases r <;> simp only [] <;> (try split) <;> simp
  · rfl
@[simp] theorem State.jobReport_core (s : State) (i : Fin 12) (g : Byte) (r : JobResult) : (s.jobReport i g r).core = s.core := by
  unfold State.jobReport; split
  · cases r <;> simp only [] <;> (try split) <;> simp
  · rfl
@[simp] theorem State.jobReport_active (s : State) (i : Fin 12) (g : Byte) (r : JobResult) : (s.jobReport i g r).active = s.active := by
  unfold State.jobReport; split
  · cases r <;> simp only [] <;> (try split) <;> simp
  · rfl
@[simp] theorem State.jobReport_revoking (s : State) (i : Fin 12) (g : Byte) (r : JobResult) : (s.jobReport i g r).revoking = s.revoking := by
  unfold State.jobReport; split
  · cases r <;> simp only [] <;> (try split) <;> simp
  · rfl
@[simp] theorem State.jobReport_fuses (s : State) (i : Fin 12) (g : Byte) (r : JobResult) : (s.jobReport i g r).fuses = s.fuses := by
  unfold State.jobReport; split
  · cases r <;> simp only [] <;> (try split) <;> simp
  · rfl
@[simp] theorem State.jobReport_fuseOp (s : State) (i : Fin 12) (g : Byte) (r : JobResult) : (s.jobReport i g r).fuseOp = s.fuseOp := by
  unfold State.jobReport; split
  · cases r <;> simp only [] <;> (try split) <;> simp
  · rfl
@[simp] theorem State.jobReport_reserved (s : State) (i : Fin 12) (g : Byte) (r : JobResult) : (s.jobReport i g r).reserved = s.reserved := by
  unfold State.jobReport; split
  · cases r <;> simp only [] <;> (try split) <;> simp
  · rfl
@[simp] theorem State.jobReport_rom (s : State) (i : Fin 12) (g : Byte) (r : JobResult) : (s.jobReport i g r).rom = s.rom := by
  unfold State.jobReport; split
  · cases r <;> simp only [] <;> (try split) <;> simp
  · rfl
@[simp] theorem State.jobReport_resetNLow (s : State) (i : Fin 12) (g : Byte) (r : JobResult) : (s.jobReport i g r).resetNLow = s.resetNLow := by
  unfold State.jobReport; split
  · cases r <;> simp only [] <;> (try split) <;> simp
  · rfl
@[simp] theorem State.jobReport_supplyLow (s : State) (i : Fin 12) (g : Byte) (r : JobResult) : (s.jobReport i g r).supplyLow = s.supplyLow := by
  unfold State.jobReport; split
  · cases r <;> simp only [] <;> (try split) <;> simp
  · rfl
@[simp] theorem State.jobReport_spi (s : State) (i : Fin 12) (g : Byte) (r : JobResult) : (s.jobReport i g r).spi = s.spi := by
  unfold State.jobReport; split
  · cases r <;> simp only [] <;> (try split) <;> simp
  · rfl
@[simp] theorem State.jobReport_windowIgnored (s : State) (i : Fin 12) (g : Byte) (r : JobResult) : (s.jobReport i g r).windowIgnored = s.windowIgnored := by
  unfold State.jobReport; split
  · cases r <;> simp only [] <;> (try split) <;> simp
  · rfl
@[simp] theorem State.jobReport_pins (s : State) (i : Fin 12) (g : Byte) (r : JobResult) : (s.jobReport i g r).pins = s.pins := by
  unfold State.jobReport; split
  · cases r <;> simp only [] <;> (try split) <;> simp
  · rfl
@[simp] theorem State.jobReport_freeCount (s : State) (i : Fin 12) (g : Byte) (r : JobResult) : (s.jobReport i g r).freeCount = s.freeCount := by
  unfold State.jobReport; split
  · cases r <;> simp only [] <;> (try split) <;> simp
  · rfl
@[simp] theorem State.jobReport_pending (s : State) (i : Fin 12) (g : Byte) (r : JobResult) : (s.jobReport i g r).pending = s.pending := by
  unfold State.jobReport; split
  · cases r <;> simp only [] <;> (try split) <;> simp
  · rfl

/-! A segment's match (R21). -/
@[simp] theorem State.segmentMatch_cause (s : State) (x : Fin 4) (c : Claim) : (s.segmentMatch x c).cause = s.cause := by
  simp only [State.segmentMatch]; split
  · split <;> simp
  · rfl
@[simp] theorem State.segmentMatch_bootClock (s : State) (x : Fin 4) (c : Claim) : (s.segmentMatch x c).bootClock = s.bootClock := by
  simp only [State.segmentMatch]; split
  · split <;> simp
  · rfl
@[simp] theorem State.segmentMatch_staging (s : State) (x : Fin 4) (c : Claim) : (s.segmentMatch x c).staging = s.staging := by
  simp only [State.segmentMatch]; split
  · split <;> simp
  · rfl
@[simp] theorem State.segmentMatch_inForce (s : State) (x : Fin 4) (c : Claim) : (s.segmentMatch x c).inForce = s.inForce := by
  simp only [State.segmentMatch]; split
  · split <;> simp
  · rfl
@[simp] theorem State.segmentMatch_restartPending (s : State) (x : Fin 4) (c : Claim) : (s.segmentMatch x c).restartPending = s.restartPending := by
  simp only [State.segmentMatch]; split
  · split <;> simp
  · rfl
@[simp] theorem State.segmentMatch_selfTest (s : State) (x : Fin 4) (c : Claim) : (s.segmentMatch x c).selfTest = s.selfTest := by
  simp only [State.segmentMatch]; split
  · split <;> simp
  · rfl
@[simp] theorem State.segmentMatch_core (s : State) (x : Fin 4) (c : Claim) : (s.segmentMatch x c).core = s.core := by
  simp only [State.segmentMatch]; split
  · split <;> simp
  · rfl
@[simp] theorem State.segmentMatch_active (s : State) (x : Fin 4) (c : Claim) : (s.segmentMatch x c).active = s.active := by
  simp only [State.segmentMatch]; split
  · split <;> simp
  · rfl
@[simp] theorem State.segmentMatch_revoking (s : State) (x : Fin 4) (c : Claim) : (s.segmentMatch x c).revoking = s.revoking := by
  simp only [State.segmentMatch]; split
  · split <;> simp
  · rfl
@[simp] theorem State.segmentMatch_fuses (s : State) (x : Fin 4) (c : Claim) : (s.segmentMatch x c).fuses = s.fuses := by
  simp only [State.segmentMatch]; split
  · split <;> simp
  · rfl
@[simp] theorem State.segmentMatch_fuseOp (s : State) (x : Fin 4) (c : Claim) : (s.segmentMatch x c).fuseOp = s.fuseOp := by
  simp only [State.segmentMatch]; split
  · split <;> simp
  · rfl
@[simp] theorem State.segmentMatch_reserved (s : State) (x : Fin 4) (c : Claim) : (s.segmentMatch x c).reserved = s.reserved := by
  simp only [State.segmentMatch]; split
  · split <;> simp
  · rfl
@[simp] theorem State.segmentMatch_rom (s : State) (x : Fin 4) (c : Claim) : (s.segmentMatch x c).rom = s.rom := by
  simp only [State.segmentMatch]; split
  · split <;> simp
  · rfl
@[simp] theorem State.segmentMatch_resetNLow (s : State) (x : Fin 4) (c : Claim) : (s.segmentMatch x c).resetNLow = s.resetNLow := by
  simp only [State.segmentMatch]; split
  · split <;> simp
  · rfl
@[simp] theorem State.segmentMatch_supplyLow (s : State) (x : Fin 4) (c : Claim) : (s.segmentMatch x c).supplyLow = s.supplyLow := by
  simp only [State.segmentMatch]; split
  · split <;> simp
  · rfl
@[simp] theorem State.segmentMatch_spi (s : State) (x : Fin 4) (c : Claim) : (s.segmentMatch x c).spi = s.spi := by
  simp only [State.segmentMatch]; split
  · split <;> simp
  · rfl
@[simp] theorem State.segmentMatch_windowIgnored (s : State) (x : Fin 4) (c : Claim) : (s.segmentMatch x c).windowIgnored = s.windowIgnored := by
  simp only [State.segmentMatch]; split
  · split <;> simp
  · rfl
@[simp] theorem State.segmentMatch_pins (s : State) (x : Fin 4) (c : Claim) : (s.segmentMatch x c).pins = s.pins := by
  simp only [State.segmentMatch]; split
  · split <;> simp
  · rfl
@[simp] theorem State.segmentMatch_freeCount (s : State) (x : Fin 4) (c : Claim) : (s.segmentMatch x c).freeCount = s.freeCount := by
  simp only [State.segmentMatch]; split
  · split <;> simp
  · rfl
@[simp] theorem State.segmentMatch_pending (s : State) (x : Fin 4) (c : Claim) : (s.segmentMatch x c).pending = s.pending := by
  simp only [State.segmentMatch]; split
  · split <;> simp
  · rfl

/-! A segment's mismatch (R22). -/
@[simp] theorem State.segmentMismatch_cause (s : State) (c : Claim) (e d : List Byte) : (s.segmentMismatch c e d).cause = s.cause := by
  unfold State.segmentMismatch; split <;> simp
@[simp] theorem State.segmentMismatch_bootClock (s : State) (c : Claim) (e d : List Byte) : (s.segmentMismatch c e d).bootClock = s.bootClock := by
  unfold State.segmentMismatch; split <;> simp
@[simp] theorem State.segmentMismatch_staging (s : State) (c : Claim) (e d : List Byte) : (s.segmentMismatch c e d).staging = s.staging := by
  unfold State.segmentMismatch; split <;> simp
@[simp] theorem State.segmentMismatch_inForce (s : State) (c : Claim) (e d : List Byte) : (s.segmentMismatch c e d).inForce = s.inForce := by
  unfold State.segmentMismatch; split <;> simp
@[simp] theorem State.segmentMismatch_restartPending (s : State) (c : Claim) (e d : List Byte) : (s.segmentMismatch c e d).restartPending = s.restartPending := by
  unfold State.segmentMismatch; split <;> simp
@[simp] theorem State.segmentMismatch_selfTest (s : State) (c : Claim) (e d : List Byte) : (s.segmentMismatch c e d).selfTest = s.selfTest := by
  unfold State.segmentMismatch; split <;> simp
@[simp] theorem State.segmentMismatch_core (s : State) (c : Claim) (e d : List Byte) : (s.segmentMismatch c e d).core = s.core := by
  unfold State.segmentMismatch; split <;> simp
@[simp] theorem State.segmentMismatch_active (s : State) (c : Claim) (e d : List Byte) : (s.segmentMismatch c e d).active = s.active := by
  unfold State.segmentMismatch; split <;> simp
@[simp] theorem State.segmentMismatch_revoking (s : State) (c : Claim) (e d : List Byte) : (s.segmentMismatch c e d).revoking = s.revoking := by
  unfold State.segmentMismatch; split <;> simp
@[simp] theorem State.segmentMismatch_fuses (s : State) (c : Claim) (e d : List Byte) : (s.segmentMismatch c e d).fuses = s.fuses := by
  unfold State.segmentMismatch; split <;> simp
@[simp] theorem State.segmentMismatch_fuseOp (s : State) (c : Claim) (e d : List Byte) : (s.segmentMismatch c e d).fuseOp = s.fuseOp := by
  unfold State.segmentMismatch; split <;> simp
@[simp] theorem State.segmentMismatch_reserved (s : State) (c : Claim) (e d : List Byte) : (s.segmentMismatch c e d).reserved = s.reserved := by
  unfold State.segmentMismatch; split <;> simp
@[simp] theorem State.segmentMismatch_rom (s : State) (c : Claim) (e d : List Byte) : (s.segmentMismatch c e d).rom = s.rom := by
  unfold State.segmentMismatch; split <;> simp
@[simp] theorem State.segmentMismatch_resetNLow (s : State) (c : Claim) (e d : List Byte) : (s.segmentMismatch c e d).resetNLow = s.resetNLow := by
  unfold State.segmentMismatch; split <;> simp
@[simp] theorem State.segmentMismatch_supplyLow (s : State) (c : Claim) (e d : List Byte) : (s.segmentMismatch c e d).supplyLow = s.supplyLow := by
  unfold State.segmentMismatch; split <;> simp
@[simp] theorem State.segmentMismatch_spi (s : State) (c : Claim) (e d : List Byte) : (s.segmentMismatch c e d).spi = s.spi := by
  unfold State.segmentMismatch; split <;> simp
@[simp] theorem State.segmentMismatch_windowIgnored (s : State) (c : Claim) (e d : List Byte) : (s.segmentMismatch c e d).windowIgnored = s.windowIgnored := by
  unfold State.segmentMismatch; split <;> simp
@[simp] theorem State.segmentMismatch_pins (s : State) (c : Claim) (e d : List Byte) : (s.segmentMismatch c e d).pins = s.pins := by
  unfold State.segmentMismatch; split <;> simp
@[simp] theorem State.segmentMismatch_freeCount (s : State) (c : Claim) (e d : List Byte) : (s.segmentMismatch c e d).freeCount = s.freeCount := by
  unfold State.segmentMismatch; split <;> simp
@[simp] theorem State.segmentMismatch_pending (s : State) (c : Claim) (e d : List Byte) : (s.segmentMismatch c e d).pending = s.pending := by
  unfold State.segmentMismatch; split <;> simp

/-! A context completes (R50). -/
@[simp] theorem State.completeCtx_cause (s : State) (x : Fin 4) (c : Claim) : (s.completeCtx x c).cause = s.cause := by
  simp only [State.completeCtx]; split <;> simp
@[simp] theorem State.completeCtx_bootClock (s : State) (x : Fin 4) (c : Claim) : (s.completeCtx x c).bootClock = s.bootClock := by
  simp only [State.completeCtx]; split <;> simp
@[simp] theorem State.completeCtx_staging (s : State) (x : Fin 4) (c : Claim) : (s.completeCtx x c).staging = s.staging := by
  simp only [State.completeCtx]; split <;> simp
@[simp] theorem State.completeCtx_inForce (s : State) (x : Fin 4) (c : Claim) : (s.completeCtx x c).inForce = s.inForce := by
  simp only [State.completeCtx]; split <;> simp
@[simp] theorem State.completeCtx_restartPending (s : State) (x : Fin 4) (c : Claim) : (s.completeCtx x c).restartPending = s.restartPending := by
  simp only [State.completeCtx]; split <;> simp
@[simp] theorem State.completeCtx_selfTest (s : State) (x : Fin 4) (c : Claim) : (s.completeCtx x c).selfTest = s.selfTest := by
  simp only [State.completeCtx]; split <;> simp
@[simp] theorem State.completeCtx_core (s : State) (x : Fin 4) (c : Claim) : (s.completeCtx x c).core = s.core := by
  simp only [State.completeCtx]; split <;> simp
@[simp] theorem State.completeCtx_active (s : State) (x : Fin 4) (c : Claim) : (s.completeCtx x c).active = s.active := by
  simp only [State.completeCtx]; split <;> simp
@[simp] theorem State.completeCtx_revoking (s : State) (x : Fin 4) (c : Claim) : (s.completeCtx x c).revoking = s.revoking := by
  simp only [State.completeCtx]; split <;> simp
@[simp] theorem State.completeCtx_fuses (s : State) (x : Fin 4) (c : Claim) : (s.completeCtx x c).fuses = s.fuses := by
  simp only [State.completeCtx]; split <;> simp
@[simp] theorem State.completeCtx_fuseOp (s : State) (x : Fin 4) (c : Claim) : (s.completeCtx x c).fuseOp = s.fuseOp := by
  simp only [State.completeCtx]; split <;> simp
@[simp] theorem State.completeCtx_reserved (s : State) (x : Fin 4) (c : Claim) : (s.completeCtx x c).reserved = s.reserved := by
  simp only [State.completeCtx]; split <;> simp
@[simp] theorem State.completeCtx_rom (s : State) (x : Fin 4) (c : Claim) : (s.completeCtx x c).rom = s.rom := by
  simp only [State.completeCtx]; split <;> simp
@[simp] theorem State.completeCtx_resetNLow (s : State) (x : Fin 4) (c : Claim) : (s.completeCtx x c).resetNLow = s.resetNLow := by
  simp only [State.completeCtx]; split <;> simp
@[simp] theorem State.completeCtx_supplyLow (s : State) (x : Fin 4) (c : Claim) : (s.completeCtx x c).supplyLow = s.supplyLow := by
  simp only [State.completeCtx]; split <;> simp
@[simp] theorem State.completeCtx_spi (s : State) (x : Fin 4) (c : Claim) : (s.completeCtx x c).spi = s.spi := by
  simp only [State.completeCtx]; split <;> simp
@[simp] theorem State.completeCtx_windowIgnored (s : State) (x : Fin 4) (c : Claim) : (s.completeCtx x c).windowIgnored = s.windowIgnored := by
  simp only [State.completeCtx]; split <;> simp
@[simp] theorem State.completeCtx_pins (s : State) (x : Fin 4) (c : Claim) : (s.completeCtx x c).pins = s.pins := by
  simp only [State.completeCtx]; split <;> simp
@[simp] theorem State.completeCtx_freeCount (s : State) (x : Fin 4) (c : Claim) : (s.completeCtx x c).freeCount = s.freeCount := by
  simp only [State.completeCtx]; split <;> simp
@[simp] theorem State.completeCtx_pending (s : State) (x : Fin 4) (c : Claim) : (s.completeCtx x c).pending = s.pending := by
  simp only [State.completeCtx]; split <;> simp

end Sys2Proof.Machine
end

