-- ==== Sys2Proof/Laws/Slots.lean ====
section
/-! SUPPORT. What a rejection order leaves of each slot (R16 to R18). -/

namespace Sys2Proof.Machine

/-- One live slot rejected: that slot as the order leaves it, and no other changed. -/
theorem State.reject_slots {s : State} {i : Fin 12} (h : s.slots[i].live = true) (r : FaultCode)
    (g : Option Byte) (k : Option (Fin 10)) (d : List Byte) :
    (s.reject i r g k d).slots = put s.slots i (s.slots[i].rejectedFor r) := by
  simp only [State.reject]
  rw [if_pos h]
  simp [State.release, State.setSlot, State.recordFault, State.post, Slot.rejectedFor]

/-- An order over distinct live slots: those it names as the order leaves them, the others as they
were. -/
theorem State.rejectAll_slots {names : List (Fin 12)} (r : FaultCode) (k : Option (Fin 10)) :
    ∀ {s : State}, names.Nodup → (∀ i ∈ names, s.slots[i].live = true) → ∀ j : Fin 12,
      (s.rejectAll names r k).slots[j] =
        if j ∈ names then s.slots[j].rejectedFor r else s.slots[j] := by
  induction names with
  | nil => intro s _ _ j; simp [State.rejectAll]
  | cons i rest ih =>
    intro s nd live j
    have hi := live i (by simp)
    have e := State.reject_slots hi r none k []
    rw [List.nodup_cons] at nd
    have step : s.rejectAll (i :: rest) r k = (s.reject i r none k []).rejectAll rest r k := rfl
    have out : ∀ m : Fin 12, m ≠ i → (s.reject i r none k []).slots[m] = s.slots[m] := by
      intro m hm
      rw [e]
      exact put_getElem_ne s.slots _ hm
    rw [step, ih nd.2 (fun m hm => ?_) j]
    · by_cases hj : j = i
      · subst hj
        have s1 : (s.reject j r none k []).slots[j] = s.slots[j].rejectedFor r := by
          rw [e]; exact put_getElem_self s.slots j _
        simp only [if_neg nd.1, List.mem_cons, true_or, if_true, s1]
      · simp only [List.mem_cons, hj, false_or, out j hj]
    · rw [out m (fun h => nd.1 (h ▸ hm))]
      exact live m (by simp [hm])

/-- The live slots, and those of a class, are distinct and live. -/
theorem State.liveSlots_spec (s : State) :
    s.liveSlots.Nodup ∧ ∀ i, i ∈ s.liveSlots ↔ s.slots[i].live = true :=
  ⟨by unfold State.liveSlots indicesOf; exact (List.nodup_finRange 12).filter _,
    fun i => by simp [State.liveSlots, mem_indicesOf]⟩

theorem State.liveOfClass_spec (s : State) (c : Fin 8) :
    (s.liveOfClass c).Nodup ∧
      ∀ i, i ∈ s.liveOfClass c ↔ s.slots[i].live = true ∧ s.slots[i].cls = some c :=
  ⟨by unfold State.liveOfClass indicesOf; exact (List.nodup_finRange 12).filter _,
    fun i => by simp [State.liveOfClass, mem_indicesOf]⟩

end Sys2Proof.Machine
end

