-- ==== Sys2Proof/Laws/Gate.lean ====
section
/-! SUPPORT. The end of an event that moved slots: which classes close, what the release gate makes of
the lines, what an entry to SETTLED leaves of the slots, and how the signature unit goes on. -/

namespace Sys2Proof.Machine

/-- A class closes at an event's end exactly when a slot left it, and it is then PENDING with three
attempts and no live slot (R111, R112). -/
theorem State.closes_iff (before s : State) (c : Fin 8) :
    before.closes s c = true ↔
      (∃ i : Fin 12, before.slots[i].live = true ∧ before.slots[i].cls = some c ∧
        s.slots[i].live = false) ∧
      s.classes[c].state = .pending ∧ s.classes[c].attempts = 3 ∧
      ∀ i : Fin 12, s.slots[i].live = true → s.slots[i].cls ≠ some c := by
  simp only [State.closes, State.departs, State.exhausted, State.liveOfClass, indicesOf,
    Bool.and_eq_true, List.any_eq_true, List.mem_finRange, true_and, beq_iff_eq, Bool.not_eq_true',
    List.isEmpty_iff, List.filter_eq_nil_iff, true_imp_iff, not_and, and_assoc, ne_eq]

/-- The classes that close become DECLINED or FAILED, the others are as they were (R111). -/
theorem State.closeExhausted_classes (before s : State) (c : Fin 8) :
    (before.closeExhausted s).classes[c] =
      if before.closes s c then s.classes[c].closed else s.classes[c] := by
  unfold State.closeExhausted
  split
  next => simp [State.post]
  next h =>
    rw [List.any_eq_true] at h
    rw [if_neg fun k => h ⟨c, List.mem_finRange c, k⟩]

/-- Where no class closes and no slot won one, nothing follows (R111). -/
theorem State.conclude_still {before s : State} (closes : ∀ c, before.closes s c = false)
    (wins : before.wins s = false) : before.conclude s = s := by
  have none : (List.finRange 8).any (before.closes s) = false := by
    rw [List.any_eq_false]
    exact fun c _ => by simp [closes c]
  simp [State.conclude, State.closeExhausted, none, wins]

/-- Where a class changed state, the lines are evaluated, once (R118). -/
theorem State.conclude_gate {before s : State}
    (h : (∃ c, before.closes s c = true) ∨ before.wins s = true) :
    before.conclude s = (before.closeExhausted s).gate := by
  simp only [State.conclude]
  refine if_pos ?_
  rw [Bool.or_eq_true, List.any_eq_true]
  exact h.imp_left fun ⟨c, hc⟩ => ⟨c, List.mem_finRange c, hc⟩

/-- The entry to SETTLED rejects every slot that is live, and no other (R121). -/
theorem State.settle_slots (s : State) (j : Fin 12) :
    s.settle.slots[j] =
      if s.slots[j].live = true then s.slots[j].rejectedFor .settledOut else s.slots[j] := by
  simp only [State.settle, State.post]
  obtain ⟨distinct, mem⟩ := State.liveSlots_spec
    { s with mode := .settled, verdict := verdictOf s.lines, window := s.window.stop,
             failedCount := if verdictOf s.lines = .printReady then 0 else s.failedCount }
  rw [State.rejectAll_slots _ _ distinct fun i hi => (mem i).1 hi]
  simp only [mem]

/-- The lines after the release gate: the HELD ones evaluated, the others as they were (R118). -/
theorem State.gate_lines (s : State) : s.gate.lines = evaluatedLines s.classes s.lines := by
  have moved : (s.moveLines (evaluatedLines s.classes s.lines)).lines =
      evaluatedLines s.classes s.lines := by
    unfold State.moveLines
    split
    next h => exact h.symm
    next => rfl
  simp only [State.gate, State.settleIfDecided]
  split
  · simpa [State.settle, State.post] using moved
  · exact moved

/-- While a job is in progress, only classes and lines follow an event in the signature unit (R60). -/
theorem State.startNext_busy {before s : State} (h : s.active.isSome = true) :
    before.startNext s = before.conclude s := if_pos h

/-- No job ends at its start where the oldest is no manifest job of a REVOKED key (R62). -/
theorem State.endStarts_none {s : State}
    (h : ∀ i g rest, s.jobs = .manifest i g :: rest → s.slotKeyRevoked i = false) :
    s.endStarts = s := by
  unfold State.endStarts
  generalize s.jobs.length = n
  cases n with
  | zero => rfl
  | succ n =>
    unfold endAtStart
    split
    next i g rest e => simp [h i g rest e]
    next => rfl

/-- An idle unit, in an event that moved no class, takes the oldest waiting job if it is no manifest job
of a REVOKED key (R60, R63). -/
theorem State.startNext_takes {before s : State} (idle : s.active = none)
    (head : ∀ i g rest, s.jobs = .manifest i g :: rest → s.slotKeyRevoked i = false)
    (closes : ∀ c, before.closes s c = false) (wins : before.wins s = false) :
    before.startNext s = s.takeJob := by
  simp [State.startNext, idle, State.endStarts_none head, State.conclude_still closes wins]

end Sys2Proof.Machine
end

