-- ==== Sys2Proof/Laws/Links.lean ====
section
/-! SUPPORT. What closing an event does to a link, what the arrival of a good frame on a ready link
comes to, how held frames are taken, and all that a tick can do. -/

namespace Sys2Proof.Machine

/-! ### The close of an event -/

theorem LinkState.answerParked_cases (x : LinkState) :
    (x.answerParked = x ∧ ∀ w, x.parked = some w → x.flags &&& w.mask = 0) ∨
    (∃ w, x.parked = some w ∧ x.flags &&& w.mask ≠ 0 ∧
      x.answerParked = { x with parked := none, waitReply := some (waitAnswer w.tag x.flags) }) := by
  unfold LinkState.answerParked
  cases h : x.parked with
  | none => left; simp
  | some w =>
    by_cases m : x.flags &&& w.mask = 0
    · left; simp [m]
    · right; exact ⟨w, rfl, m, if_neg m⟩

theorem LinkState.chooseReply_of {x : LinkState} (h : x.AtRest) : x.chooseReply = x := by
  have k := h.sending
  unfold LinkState.chooseReply LinkState.firstReady LinkState.holds
  rcases x with ⟨rx, held, ord, wr, parked, sending, flags, mask⟩
  rcases sending with _ | (_ | _) <;> cases ord <;> cases wr <;> simp_all

theorem LinkState.close_of_atRest {x : LinkState} (h : x.AtRest) : x.close = x := by
  have p : x.answerParked = x := by
    unfold LinkState.answerParked
    cases q : x.parked with
    | none => rfl
    | some w => simp [h.parked w q]
  unfold LinkState.close
  rw [p, LinkState.chooseReply_of h]

theorem LinkState.close_atRest (x : LinkState) : x.close.AtRest := by
  constructor
  · unfold LinkState.close LinkState.chooseReply
    rcases x.answerParked_cases with ⟨e, h⟩ | ⟨w, -, -, e⟩ <;> rw [e]
    · exact h
    · simp
  · unfold LinkState.close
    generalize x.answerParked = y
    unfold LinkState.chooseReply LinkState.firstReady LinkState.holds
    rcases y with ⟨rx, held, ord, wr, parked, sending, flags, mask⟩
    rcases sending with _ | (_ | _) <;> cases ord <;> cases wr <;> simp

theorem State.commit_atRest (s : State) : s.commit.AtRest :=
  ⟨s.linkM.close_atRest, s.linkE.close_atRest, rfl⟩

theorem State.commit_of_atRest {s : State} (h : s.AtRest) : s.commit = s := by
  have p := h.pins
  simp only [State.drivenPins, State.deaf] at p
  cases s
  simp only [State.commit, State.drive, State.drivenPins, State.deaf, LinkState.close_of_atRest h.linkM,
    LinkState.close_of_atRest h.linkE, State.mk.injEq, true_and, and_true]
  exact p.symm

@[simp] theorem State.commit_commit (s : State) : s.commit.commit = s.commit :=
  State.commit_of_atRest s.commit_atRest

/-- The close answers WAITs and chooses replies, and leaves the rest of a link as it is. -/
theorem LinkState.close_frame (x : LinkState) :
    x.close.rx = x.rx ∧ x.close.held = x.held ∧ x.close.ordinary = x.ordinary ∧
    x.close.flags = x.flags ∧ x.close.attnMask = x.attnMask := by
  unfold LinkState.close LinkState.chooseReply
  rcases x.answerParked_cases with ⟨e, -⟩ | ⟨w, -, -, e⟩ <;> rw [e] <;> simp

@[simp] theorem LinkState.close_rx (x : LinkState) : x.close.rx = x.rx := x.close_frame.1
@[simp] theorem LinkState.close_held (x : LinkState) : x.close.held = x.held := x.close_frame.2.1
@[simp] theorem LinkState.close_ordinary (x : LinkState) : x.close.ordinary = x.ordinary :=
  x.close_frame.2.2.1
@[simp] theorem LinkState.close_flags (x : LinkState) : x.close.flags = x.flags := x.close_frame.2.2.2.1
@[simp] theorem LinkState.close_attnMask (x : LinkState) : x.close.attnMask = x.attnMask :=
  x.close_frame.2.2.2.2

/-- An event that sets flags on a link sets these alone. -/
@[simp] theorem LinkState.flagged_flags (x : LinkState) (bits : Half) :
    (x.flagged bits).flags = x.flags ||| bits := LinkState.close_flags _

/-! ### A window of which nothing more comes -/

@[simp] theorem State.spendWindow_mode (s : State) (l : Link) : (s.spendWindow l).mode = s.mode := by cases l <;> rfl
@[simp] theorem State.spendWindow_verdict (s : State) (l : Link) : (s.spendWindow l).verdict = s.verdict := by cases l <;> rfl
@[simp] theorem State.spendWindow_cause (s : State) (l : Link) : (s.spendWindow l).cause = s.cause := by cases l <;> rfl
@[simp] theorem State.spendWindow_failedCount (s : State) (l : Link) : (s.spendWindow l).failedCount = s.failedCount := by cases l <;> rfl
@[simp] theorem State.spendWindow_bootClock (s : State) (l : Link) : (s.spendWindow l).bootClock = s.bootClock := by cases l <;> rfl
@[simp] theorem State.spendWindow_staging (s : State) (l : Link) : (s.spendWindow l).staging = s.staging := by cases l <;> rfl
@[simp] theorem State.spendWindow_inForce (s : State) (l : Link) : (s.spendWindow l).inForce = s.inForce := by cases l <;> rfl
@[simp] theorem State.spendWindow_restartPending (s : State) (l : Link) : (s.spendWindow l).restartPending = s.restartPending := by cases l <;> rfl
@[simp] theorem State.spendWindow_selfTest (s : State) (l : Link) : (s.spendWindow l).selfTest = s.selfTest := by cases l <;> rfl
@[simp] theorem State.spendWindow_slots (s : State) (l : Link) : (s.spendWindow l).slots = s.slots := by cases l <;> rfl
@[simp] theorem State.spendWindow_ctxs (s : State) (l : Link) : (s.spendWindow l).ctxs = s.ctxs := by cases l <;> rfl
@[simp] theorem State.spendWindow_chunkQueue (s : State) (l : Link) : (s.spendWindow l).chunkQueue = s.chunkQueue := by cases l <;> rfl
@[simp] theorem State.spendWindow_core (s : State) (l : Link) : (s.spendWindow l).core = s.core := by cases l <;> rfl
@[simp] theorem State.spendWindow_jobs (s : State) (l : Link) : (s.spendWindow l).jobs = s.jobs := by cases l <;> rfl
@[simp] theorem State.spendWindow_active (s : State) (l : Link) : (s.spendWindow l).active = s.active := by cases l <;> rfl
@[simp] theorem State.spendWindow_revoking (s : State) (l : Link) : (s.spendWindow l).revoking = s.revoking := by cases l <;> rfl
@[simp] theorem State.spendWindow_fuses (s : State) (l : Link) : (s.spendWindow l).fuses = s.fuses := by cases l <;> rfl
@[simp] theorem State.spendWindow_fuseOp (s : State) (l : Link) : (s.spendWindow l).fuseOp = s.fuseOp := by cases l <;> rfl
@[simp] theorem State.spendWindow_reserved (s : State) (l : Link) : (s.spendWindow l).reserved = s.reserved := by cases l <;> rfl
@[simp] theorem State.spendWindow_classes (s : State) (l : Link) : (s.spendWindow l).classes = s.classes := by cases l <;> rfl
@[simp] theorem State.spendWindow_lines (s : State) (l : Link) : (s.spendWindow l).lines = s.lines := by cases l <;> rfl
@[simp] theorem State.spendWindow_window (s : State) (l : Link) : (s.spendWindow l).window = s.window := by cases l <;> rfl
@[simp] theorem State.spendWindow_linkM (s : State) (l : Link) : (s.spendWindow l).linkM = s.linkM := by cases l <;> rfl
@[simp] theorem State.spendWindow_linkE (s : State) (l : Link) : (s.spendWindow l).linkE = s.linkE := by cases l <;> rfl
@[simp] theorem State.spendWindow_faults (s : State) (l : Link) : (s.spendWindow l).faults = s.faults := by cases l <;> rfl
@[simp] theorem State.spendWindow_rom (s : State) (l : Link) : (s.spendWindow l).rom = s.rom := by cases l <;> rfl
@[simp] theorem State.spendWindow_resetNLow (s : State) (l : Link) : (s.spendWindow l).resetNLow = s.resetNLow := by cases l <;> rfl
@[simp] theorem State.spendWindow_supplyLow (s : State) (l : Link) : (s.spendWindow l).supplyLow = s.supplyLow := by cases l <;> rfl
@[simp] theorem State.spendWindow_pins (s : State) (l : Link) : (s.spendWindow l).pins = s.pins := by cases l <;> rfl
@[simp] theorem State.spendWindow_freeCount (s : State) (l : Link) : (s.spendWindow l).freeCount = s.freeCount := by cases l <;> rfl
@[simp] theorem State.spendWindow_pending (s : State) (l : Link) : (s.spendWindow l).pending = s.pending := by cases l <;> rfl
@[simp] theorem State.spendWindow_link (s : State) (l k : Link) : (s.spendWindow l).link k = s.link k := by cases l <;> rfl
@[simp] theorem State.spendWindow_e (s : State) : s.spendWindow .e = s := rfl

/-! ### A link that has replied -/

theorem LinkState.close_replied {x : LinkState} (h : x.AtRest) (k : x.ordinary = none) (r : Reply) :
    ({ x with rx := .hunting, ordinary := some r } : LinkState).close = x.replied r := by
  have p : ({ x with rx := .hunting, ordinary := some r } : LinkState).answerParked =
      { x with rx := .hunting, ordinary := some r } := by
    unfold LinkState.answerParked
    cases q : x.parked with
    | none => rfl
    | some w => simp [h.parked w q]
  have j := h.sending
  unfold LinkState.close LinkState.replied
  rw [p]
  unfold LinkState.chooseReply LinkState.firstReady LinkState.holds
  rcases x with ⟨rx, held, ord, wr, parked, sending, flags, mask⟩
  rcases sending with _ | (_ | _) <;> cases ord <;> cases wr <;> simp_all

/-- A reply on a link of a part at rest, with no flag set and no line changed, changes that link
and the pins that follow it alone. -/
theorem State.commit_replied {s : State} {l : Link} (h : s.AtRest) (k : (s.link l).ordinary = none)
    (r : Reply) :
    ((s.spendWindow l).onLink l fun x => { x with rx := .hunting, ordinary := some r }).commit =
      s.replied l r := by
  cases l
  · simp only [State.commit, State.replied, State.onLink, State.spendWindow,
      LinkState.close_replied h.linkM k, LinkState.close_of_atRest h.linkE]
  · simp only [State.commit, State.replied, State.onLink, State.spendWindow,
      LinkState.close_replied h.linkE k, LinkState.close_of_atRest h.linkM]

/-! ### The arrival of a good frame -/

theorem frameCrc_goodRequest (k : Kind) (tag : Byte) (payload : List Byte) :
    frameCrc (requestFrame k (goodRequest k tag payload)) =
      (requestFrame k (goodRequest k tag payload)).crc := rfl

theorem lenOk_iff (n : Nat) : lenOk n = true ↔ 2 ≤ n ∧ n ≤ 1040 := by
  unfold lenOk maxLen; exact decide_eq_true_iff

/-- The window in which a frame ends that is not lost, on a part that is not held: it is not ignored. -/
theorem State.frameWindow_taken {s : State} (h : s.windowLost = false) (d : s.deaf = false) :
    s.frameWindow.windowIgnored = false ∧ s.frameWindow.deaf = false ∧
      s.frameWindow.spendWindow .m = s.spendWindow .m := by
  unfold State.frameWindow
  unfold State.windowLost at h
  split
  next p => exact ⟨d, d, rfl⟩
  next p => exact ⟨by simpa [p] using h, d, rfl⟩

/-- A window of Link M by what the part makes of it (R149, R151, R152, R173, R176): ignored, of a held
part, or taken, its SYNC first, up to a reset or a pending RESTART. -/
theorem State.inWindow_cases (s : State) (rest : State → State) :
    ((s.frameWindow.windowIgnored = true ∨ s.frameWindow.deaf = true) ∧
      s.inWindow rest = { s.frameWindow with spi := .spent }) ∨
    (s.frameWindow.windowIgnored = false ∧ s.frameWindow.deaf = false ∧ s.inWindow rest =
      let t := s.frameWindow.windowSync
      if t.windowIgnored then { t with spi := .spent }
      else if t.restartPending then (t.hunt .m).spendWindow .m
      else rest ((t.hunt .m).spendWindow .m)) := by
  cases i : s.frameWindow.windowIgnored <;> cases d : s.frameWindow.deaf <;>
    simp [State.inWindow, i, d]

/-- A frame that fits arrives on a ready link: it is taken, and of a Link M window nothing more comes. -/
theorem State.arrive_ready {s : State} {l : Link} (h : s.Ready l) (take : State → State) (f : Frame)
    (hf : f.payload.length ≤ 1038) : s.arrive l take f = take ((s.hunt l).spendWindow l) := by
  have ok : lenOk (frameLen f) = true := by rw [lenOk_iff, frameLen]; omega
  have e := h.entry
  have r := h.restart
  cases l
  · obtain ⟨i, d, w⟩ := State.frameWindow_taken (h.window rfl) h.heard
    have m : s.frameWindow.linkM = s.linkM := by unfold State.frameWindow; split <;> rfl
    have p : s.frameWindow.restartPending = s.restartPending := by
      unfold State.frameWindow; split <;> rfl
    have k : s.frameWindow.windowSync = s.frameWindow := if_neg (by rw [m]; simpa [State.link] using e)
    have v : (s.frameWindow.hunt .m).spendWindow .m = (s.hunt .m).spendWindow .m := by
      unfold State.frameWindow; split <;> rfl
    simp only [State.arrive, State.arriveM]
    rcases State.inWindow_cases s (fun t => if lenOk (frameLen f) then take t else t.abandon .m) with
      ⟨bad | bad, _⟩ | ⟨_, _, q⟩
    · simp [i] at bad
    · simp [d] at bad
    · rw [q, k]
      simp only [i, p, r, ok, v, if_true, Bool.false_eq_true, if_false]
  · have g : s.linkE.held = [] := h.held
    simp_all [State.arrive, State.arriveE, State.freeE, State.link, h.heard]

/-- A good request on a ready link: its handler runs, its answer is the ordinary reply, and the
event closes. -/
theorem State.request_ready {s : State} {l : Link} (h : s.Ready l) (k : Kind) (hd : Handler)
    (tag : Byte) (payload : List Byte) (fits : payload.length ≤ 1038)
    (size : payloadSizeOk k payload.length = true) :
    s.request k hd l (goodRequest k tag payload) =
      (State.answer l (requestFrame k (goodRequest k tag payload))
        (hd l (requestFrame k (goodRequest k tag payload)) ((s.hunt l).spendWindow l))).commit := by
  have c := frameCrc_goodRequest k tag payload
  unfold State.request
  rw [State.arrive_ready h _ _ fits]
  unfold takeRequest
  rw [if_neg (not_not_intro c)]
  simp [requestFrame, goodRequest, size]

/-- What a handler that answers without touching a link leaves: the reply on that link, and the
changes the handler made, given that they move no pin. -/
theorem State.answer_replied {s t : State} {l : Link} (h : t.AtRest)
    (k : (t.link l).ordinary = none) (hs : s = (t.hunt l).spendWindow l) (f : Frame) (a : Answer) :
    (State.answer l f (s, some a)).commit = t.replied l (replyTo f a) := by
  subst hs
  have e : State.answer l f ((t.hunt l).spendWindow l, some a) =
      (t.spendWindow l).onLink l fun x => { x with rx := .hunting, ordinary := some (replyTo f a) } := by
    cases l <;> rfl
  rw [e, State.commit_replied h k]

/-! ### An empty queue -/

theorem LinkState.inFrame_eq_false (x : LinkState) : x.inFrame = false ↔ x.rx = .hunting := by
  simp [LinkState.inFrame]

theorem State.assemblingE_iff (s : State) :
    s.assemblingE = true ↔ s.linkE.rx ≠ .hunting ∧ s.deaf = false := by
  simp [State.assemblingE, LinkState.inFrame]

/-- All that a byte does to a receive assembly: 0xA5 begins a frame where none is being assembled (R177). -/
theorem LinkState.hear_cases (x : LinkState) (b : Byte) :
    (x.hear b = x ∧ ¬(x.rx = .hunting ∧ b = 0xA5)) ∨
    (x.rx = .hunting ∧ b = 0xA5 ∧ x.hear b = { x with rx := .assembling [0xA5] }) := by
  have free := x.inFrame_eq_false
  unfold LinkState.hear
  by_cases h : x.rx = .hunting ∧ b = 0xA5
  · obtain ⟨h, rfl⟩ := h
    exact .inr ⟨h, rfl, if_pos (by rw [free.2 h]; rfl)⟩
  · refine .inl ⟨if_neg fun k => h ?_, h⟩
    rw [Bool.and_eq_true, Bool.not_eq_true', free, beq_iff_eq] at k
    exact k

/-- All that RXD does at an idle step: nothing, or it begins a frame of Link E. -/
theorem State.receive_cases (s : State) :
    s.receive = s ∨
    (s.linkE.rx = .hunting ∧ s.deaf = false ∧ Config.linkEByte s.freeCount = some 0xA5 ∧
      s.receive = { s with linkE := { s.linkE with rx := .assembling [0xA5] } }) := by
  unfold State.receive
  split
  next b h =>
    unfold State.hearE
    split
    · exact .inl rfl
    next d =>
      rcases s.linkE.hear_cases b with ⟨e, -⟩ | ⟨r, rfl, e⟩
      · exact .inl (by simp [State.onLink, e])
      · exact .inr ⟨r, by simpa using d, h, congrArg (fun x => { s with linkE := x }) e⟩
  · exact .inl rfl

@[simp] theorem State.receive_spi (s : State) : s.receive.spi = s.spi := by
  rcases s.receive_cases with e | ⟨-, -, -, e⟩ <;> rw [e]

@[simp] theorem State.receive_windowIgnored (s : State) : s.receive.windowIgnored = s.windowIgnored := by
  rcases s.receive_cases with e | ⟨-, -, -, e⟩ <;> rw [e]

/-- What an idle step can do to the window: nothing, begin one, or end one in which no frame is being
assembled (R173). -/
theorem State.idle_cases (s : State) :
    let u : State := { s.receive with freeCount := s.freeCount + 1 }
    s.idle = u.drive ∨ (s.spi = .shut ∧ s.idle = u.windowFalls.drive) ∨
      (s.spi ≠ .shut ∧ s.assembling = false ∧ s.idle = u.windowRises.drive) := by
  simp only [State.idle]
  split
  · simp only [State.chipSelect, State.assembling, State.receive_spi, State.receive_windowIgnored]
    cases p : s.spi <;> cases i : s.windowIgnored <;> simp
  · exact .inl rfl

/-! ### Held frames -/

/-- No held frame is taken over a reply or a pending RESTART, nor where none is held. -/
theorem drainHeld_stays {s : State}
    (h : s.linkE.ordinary ≠ none ∨ s.restartPending = true ∨ s.linkE.held = []) (n : Nat) :
    drainHeld n s = s := by
  cases n with
  | zero => rfl
  | succ n =>
    unfold drainHeld
    rcases h with h | h | h
    · rw [if_pos (by simp [Option.isSome_iff_ne_none, h])]
    · rw [if_pos (by simp [h])]
    · split
      · rfl
      · simp [h]

/-- Otherwise the oldest is taken, its event closes, and the draining goes on. -/
theorem drainHeld_takes {s : State} {f : Frame} {rest : List Frame} (h : s.linkE.ordinary = none)
    (r : s.restartPending = false) (k : s.linkE.held = f :: rest) (n : Nat) :
    drainHeld (n + 1) s =
      drainHeld n (takeFrame .e f (s.onLink .e fun x => { x with held := rest })).commit := by
  rw [drainHeld]
  simp [h, r, k]

/-! ### Ticks -/

theorem Window.tickDue_iff (w : Window) :
    w.tickDue = true ↔ w.running = true ∧ w.toTick = some 0 := by
  simp [Window.tickDue]

/-- A restarted interval has no tick due. -/
theorem State.setCount_not_due (s : State) (w : Window) (count : Nat) :
    (s.setCount w count).window.tickDue = false := by
  have h : 2 ^ w.prescale * 1000 ≠ 0 := by have := Nat.two_pow_pos w.prescale; omega
  simp only [State.setCount]
  split <;> simp [Window.tickDue, tickInterval, State.post, h]

/-- All that BOOT_WINDOW_TICK can do to the part before its event closes. -/
theorem State.tick_cases (s : State) :
    (s.window.tickDue = false ∧ s.tick = s) ∨
    (s.window.tickDue = true ∧ s.window.count = 0 ∧ s.tick = s.expire) ∨
    (s.window.tickDue = true ∧ 0 < s.window.count ∧
      s.tick = s.setCount s.window (s.window.count - 1)) := by
  unfold State.tick
  by_cases d : s.window.tickDue = true
  · by_cases c : s.window.count = 0
    · exact Or.inr (Or.inl ⟨d, c, by simp [d, c]⟩)
    · exact Or.inr (Or.inr ⟨d, Nat.pos_of_ne_zero c, by simp [d, c]⟩)
  · exact Or.inl ⟨by simpa using d, by simp [d]⟩

/-- All that BOOT_WINDOW_EXPIRY can do to it. -/
theorem State.expiryTick_cases (s : State) :
    (¬(s.window.tickDue = true ∧ s.window.count = 0) ∧ s.expiryTick = s) ∨
    (s.window.tickDue = true ∧ s.window.count = 0 ∧ s.expiryTick = s.expire) := by
  unfold State.expiryTick
  by_cases d : s.window.tickDue = true ∧ s.window.count = 0
  · exact Or.inr ⟨d.1, d.2, if_pos d⟩
  · exact Or.inl ⟨d, if_neg d⟩

end Sys2Proof.Machine
end

