-- ==== Sys2Proof/Laws/Wanes.lean ====
section
/-! SUPPORT. What rejections, releases, class changes and line evaluations can do, said once: work
only leaves the units' queues, links only gain flags, and the mode moves from VERIFY to SETTLED
alone. -/

namespace Sys2Proof.Machine

/-- A link that differs in flags alone, and has lost none. -/
def LinkState.Gains (x y : LinkState) : Prop := ∃ bits, y = { x with flags := x.flags ||| bits }

theorem LinkState.Gains.refl (x : LinkState) : x.Gains x := ⟨0, by simp⟩

theorem LinkState.Gains.trans {x y z : LinkState} : x.Gains y → y.Gains z → x.Gains z := by
  rintro ⟨a, rfl⟩ ⟨b, rfl⟩
  exact ⟨a ||| b, by simp [BitVec.or_assoc]⟩

theorem LinkState.raise_gains (x : LinkState) (f : EventFlag) : x.Gains (x.raise f) := ⟨flagBit f, rfl⟩

/-- What an operation on slots, classes and lines can do to the rest. -/
structure State.Wanes (s t : State) : Prop where
  jobs     : t.jobs.Sublist s.jobs
  chunks   : t.chunkQueue.Sublist s.chunkQueue
  buffers  : ∀ i : Fin 12, t.slots[i].buffer = s.slots[i].buffer
  attempts : ∀ c : Fin 8, t.classes[c].attempts = s.classes[c].attempts
  linkM    : s.linkM.Gains t.linkM
  linkE    : s.linkE.Gains t.linkE
  failed   : t.failedCount = s.failedCount ∨ t.failedCount = 0
  mode     : t.mode = s.mode ∨ (s.mode = .verify ∧ t.mode = .settled)

theorem State.Wanes.refl (s : State) : s.Wanes s :=
  ⟨.refl _, .refl _, fun _ => rfl, fun _ => rfl, .refl _, .refl _, .inl rfl, .inl rfl⟩

theorem State.Wanes.trans {s t u : State} (h : s.Wanes t) (k : t.Wanes u) : s.Wanes u where
  jobs := k.jobs.trans h.jobs
  chunks := k.chunks.trans h.chunks
  buffers i := (k.buffers i).trans (h.buffers i)
  attempts c := (k.attempts c).trans (h.attempts c)
  linkM := h.linkM.trans k.linkM
  linkE := h.linkE.trans k.linkE
  failed := by rcases k.failed with e | e <;> rcases h.failed with d | d <;> simp [e, d]
  mode := by
    rcases k.mode with e | ⟨e, e'⟩ <;> rcases h.mode with d | ⟨d, d'⟩ <;> simp_all

theorem State.post_wanes (s : State) (f : EventFlag) : s.Wanes (s.post f) :=
  { State.Wanes.refl s with linkM := s.linkM.raise_gains f, linkE := s.linkE.raise_gains f }

theorem State.recordFault_wanes (s : State) (r : FaultRecord) : s.Wanes (s.recordFault r) :=
  { State.Wanes.refl s with
    linkM := s.linkM.raise_gains .fault, linkE := s.linkE.raise_gains .fault }

theorem State.setSlot_wanes (s : State) (i : Fin 12) (x : Slot)
    (h : x.buffer = s.slots[i].buffer) : s.Wanes (s.setSlot i x) :=
  { State.Wanes.refl s with
    buffers := fun j => by
      simp only [State.setSlot_slots, Fin.getElem_fin, put_getElem]
      split
      · next e => simp only [← e]; exact h
      · rfl }

theorem State.setCtx_wanes (s : State) (x : Fin 4) (c : Option Claim) : s.Wanes (s.setCtx x c) :=
  { State.Wanes.refl s with }

theorem State.release_wanes (s : State) (i : Fin 12) : s.Wanes (s.release i) where
  jobs := List.filter_sublist
  chunks := List.filter_sublist
  buffers j := by
    simp only [State.release, State.setSlot_slots, Fin.getElem_fin, put_getElem]
    split
    · next e => simp only [← e]
    · rfl
  attempts c := by simp
  linkM := .refl _
  linkE := .refl _
  failed := .inl rfl
  mode := .inl rfl

theorem State.reject_wanes (s : State) (i : Fin 12) (r : FaultCode) (g : Option Byte)
    (k : Option (Fin 10)) (d : List Byte) : s.Wanes (s.reject i r g k d) := by
  simp only [State.reject]
  refine .trans ?_ (State.post_wanes _ _)
  refine .trans ?_ (State.recordFault_wanes _ _)
  refine .trans ?_ (State.setSlot_wanes _ i _ rfl)
  split
  · exact s.release_wanes i
  · exact .refl _

theorem State.rejectAll_wanes (s : State) (ns : List (Fin 12)) (r : FaultCode)
    (k : Option (Fin 10)) : s.Wanes (s.rejectAll ns r k) := by
  unfold State.rejectAll
  induction ns generalizing s with
  | nil => exact .refl _
  | cons i ns ih => exact (s.reject_wanes i r none k []).trans (ih _)

theorem State.moveLines_wanes (s : State) (v : Vector LineRec 6) : s.Wanes (s.moveLines v) := by
  unfold State.moveLines
  split
  · exact .refl _
  · refine .trans ?_ (State.post_wanes _ _)
    exact { State.Wanes.refl s with }

theorem State.settle_wanes (s : State) (h : s.mode = .verify) : s.Wanes s.settle := by
  simp only [State.settle]
  refine .trans ?_ (State.post_wanes _ _)
  refine .trans ?_ (State.rejectAll_wanes _ _ _ _)
  exact { State.Wanes.refl s with
    failed := by split <;> simp
    mode := .inr ⟨h, rfl⟩ }

theorem State.settleIfDecided_wanes (s : State) : s.Wanes s.settleIfDecided := by
  unfold State.settleIfDecided
  split
  · next h => exact s.settle_wanes h.1
  · exact .refl _

theorem State.gate_wanes (s : State) : s.Wanes s.gate :=
  (s.moveLines_wanes _).trans (State.settleIfDecided_wanes _)

/-- Class records that keep their attempts. -/
theorem State.classes_wanes (s : State) (v : Vector ClassRec 8)
    (h : ∀ c : Fin 8, v[c].attempts = s.classes[c].attempts) :
    s.Wanes ({ s with classes := v } : State) := { State.Wanes.refl s with attempts := h }

theorem State.setClass_wanes (s : State) (c : Fin 8) (x : ClassRec)
    (h : x.attempts = s.classes[c].attempts) : s.Wanes (s.setClass c x) :=
  s.classes_wanes _ fun j => by
    simp only [Fin.getElem_fin, put_getElem]
    split
    · next e => simp only [← e]; exact h
    · rfl

theorem State.closeExhausted_wanes (b s : State) : s.Wanes (b.closeExhausted s) := by
  unfold State.closeExhausted
  split
  · refine .trans (s.classes_wanes _ fun c => ?_) (State.post_wanes _ _)
    simp only [Fin.getElem_fin, tabulate_getElem]
    split <;> rfl
  · exact .refl _

theorem State.conclude_wanes (b s : State) : s.Wanes (b.conclude s) := by
  simp only [State.conclude]
  refine (b.closeExhausted_wanes s).trans ?_
  split
  · exact State.gate_wanes _
  · exact .refl _

theorem State.verifySlot_wanes (s : State) (i : Fin 12) : s.Wanes (s.verifySlot i) := by
  have h := (s.setSlot_wanes i { s.slots[i] with state := .verified, sig := .passed } rfl).trans
    (State.post_wanes _ .slotDone)
  simp only [State.verifySlot]
  split
  · exact h
  · refine .trans ?_ (State.post_wanes _ _)
    refine .trans ?_ (State.rejectAll_wanes _ _ _ _)
    exact h.trans (State.setClass_wanes _ _ _ rfl)

theorem State.jobReport_wanes (s : State) (i : Fin 12) (g : Byte) (r : JobResult) :
    s.Wanes (s.jobReport i g r) := by
  unfold State.jobReport
  split
  · cases r
    · simp only []
      split
      · exact s.verifySlot_wanes i
      · exact s.setSlot_wanes i _ rfl
    · refine .trans ?_ (State.reject_wanes _ _ _ _ _ _)
      exact s.setSlot_wanes i _ rfl
    · exact s.reject_wanes _ _ _ _ _
  · exact .refl _

/-- Jobs that end at their start leave the list, and their reports can do no more than reports do. -/
theorem endAtStart_wanes (n : Nat) : ∀ s : State, s.Wanes (endAtStart n s) := by
  induction n with
  | zero => exact State.Wanes.refl
  | succ n ih =>
    intro s
    unfold endAtStart
    split
    · next i gen rest e =>
      split
      · refine .trans ?_ (ih _)
        refine .trans ?_ (State.jobReport_wanes _ _ _ _)
        exact { State.Wanes.refl s with jobs := e ▸ List.sublist_cons_self _ _ }
      · exact .refl _
    · exact .refl _

theorem State.endStarts_wanes (s : State) : s.Wanes s.endStarts := endAtStart_wanes _ s

theorem State.segmentMatch_wanes (s : State) (x : Fin 4) (c : Claim) :
    s.Wanes (s.segmentMatch x c) := by
  simp only [State.segmentMatch]
  split
  · split
    · refine .trans ?_ (State.conclude_wanes _ _)
      refine .trans ?_ (State.verifySlot_wanes _ _)
      exact s.setSlot_wanes _ _ rfl
    · exact s.setSlot_wanes _ _ rfl
  · exact .refl _

theorem State.segmentMismatch_wanes (s : State) (c : Claim) (e d : List Byte) :
    s.Wanes (s.segmentMismatch c e d) := by
  unfold State.segmentMismatch
  split
  · exact (s.reject_wanes _ _ _ _ _).trans (State.conclude_wanes _ _)
  · exact .refl _

theorem State.completeCtx_wanes (s : State) (x : Fin 4) (c : Claim) :
    s.Wanes (s.completeCtx x c) := by
  simp only [State.completeCtx]
  refine (s.setCtx_wanes x none).trans ?_
  split
  · exact State.segmentMatch_wanes _ _ _
  · exact State.segmentMismatch_wanes _ _ _ _

theorem State.moveClasses_wanes (s : State) (v : Vector ClassRec 8)
    (h : ∀ c : Fin 8, v[c].attempts = s.classes[c].attempts) : s.Wanes (s.moveClasses v) := by
  unfold State.moveClasses
  split
  · exact .refl _
  · exact (s.classes_wanes v h).trans (State.post_wanes _ _)

theorem State.decline_wanes (s : State) (c : Fin 8) : s.Wanes (s.decline c) := by
  unfold State.decline
  refine .trans ?_ (State.gate_wanes _)
  refine .trans ?_ (State.post_wanes _ _)
  refine .trans ?_ (State.rejectAll_wanes _ _ _ _)
  exact s.setClass_wanes c _ rfl

theorem State.expire_wanes (s : State) : s.Wanes s.expire := by
  simp only [State.expire]
  refine .trans ?_ (State.settleIfDecided_wanes _)
  refine .trans ?_ (State.moveLines_wanes _ _)
  refine .trans ?_ (State.moveClasses_wanes _ _ fun c => ?_)
  · refine .trans ?_ (State.rejectAll_wanes _ _ _ _)
    refine .trans ?_ (State.post_wanes _ _)
    refine .trans ?_ (State.recordFault_wanes _ _)
    exact { State.Wanes.refl s with }
  · simp only [failedClasses, Fin.getElem_fin, tabulate_getElem]
    split <;> rfl

end Sys2Proof.Machine
end

