-- ==== Sys2Proof/WellFormed.lean ====
section
/-! DEFINITION. Which commands are well formed: those whose operands a link, a pin or a unit could
present. -/

namespace Sys2Proof

open Machine

/-- A request's payload fits a frame: its LEN lies within 2..1,040 (R168). -/
def Request.wellFormed (q : Request) : Bool := lenOk (2 + q.payload.length)

/-- A frame's payload fits a frame (R168). -/
def Frame.wellFormed (f : Frame) : Bool := lenOk (frameLen f)

/-- The cause can abandon a frame of the link (R174, R177). -/
def AbandonCause.wellFormed (l : Link) : AbandonCause → Bool
  | .lenOutOfRange len => !lenOk len.toNat
  | .stopBitLow => l == .e
  | .windowEnded => l == .m

/-- A command's operands are ones the part can meet. A BAD_KIND_FRAME has a KIND outside Table 11-4;
the stray fuses of a burn are named within a row. -/
def Instr.wellFormed : Instr → Bool
  | .identify _ q => q.wellFormed
  | .status _ q => q.wellFormed
  | .eventMask _ q => q.wellFormed
  | .eventClear _ q => q.wellFormed
  | .wait _ q => q.wellFormed
  | .slotOpen _ q => q.wellFormed
  | .manData _ q => q.wellFormed
  | .manClose _ q => q.wellFormed
  | .segOpen _ q => q.wellFormed
  | .segData _ q => q.wellFormed
  | .segClose _ q => q.wellFormed
  | .slotQuery _ q => q.wellFormed
  | .slotDrop _ q => q.wellFormed
  | .classDecline _ q => q.wellFormed
  | .windowExtend _ q => q.wellFormed
  | .floorAdvance _ q => q.wellFormed
  | .keyQuery _ q => q.wellFormed
  | .keyRevoke _ q => q.wellFormed
  | .keyEnroll _ q => q.wellFormed
  | .policySet _ q => q.wellFormed
  | .policyGet _ q => q.wellFormed
  | .provisionClose _ q => q.wellFormed
  | .faultRead _ q => q.wellFormed
  | .restart _ q => q.wellFormed
  | .chunkDigested => true
  | .manifestJobEnd => true
  | .revokeJobEnd => true
  | .fuseBurnComplete _ strays => strays.all fun i => decide (i ≤ 584)
  | .selftestComplete => true
  | .bootWindowTick => true
  | .bootWindowExpiry => true
  | .coldReset _ => true
  | .resetNFall => true
  | .resetNRise => true
  | .frameHeld f => f.wellFormed
  | .frameAbandoned l cause => cause.wellFormed l
  | .frameGapTimeout => true
  | .replyLeft _ => true
  | .replyRemovedUnread => true
  | .supplyRecovered => true
  | .stopBitLowWhileHunting => true
  | .badKindFrame _ f => f.wellFormed && (kindOf f.kind).isNone
  | .bootClockMicrosecond => true

end Sys2Proof
end

