-- ==== Sys2Proof/Tests/Slice0.lean ====
section
/-! SUPPORT. Tests of one step each, and a witness for the hypotheses of each statement. Expected
values come from the manual's examples and tables, from published test vectors, or by hand. -/

open Sys2Proof Sys2Proof.Machine

-- One theorem after another: the kernel's stack for each is large.
set_option Elab.async false

/-! ### Helpers -/

/-- Whether a link is at rest. -/
def Sample.linkRests (x : LinkState) : Bool :=
  (match x.parked with
   | some w => x.flags &&& w.mask == 0
   | none => true) &&
  (match x.sending with
   | none => x.ordinary.isNone && x.waitReply.isNone
   | some .ordinary => x.ordinary.isSome
   | some .wait => x.waitReply.isSome)

theorem Sample.linkRests_atRest {x : LinkState} (h : Sample.linkRests x = true) : x.AtRest := by
  rcases x with ⟨rx, held, ord, wr, parked, sending, flags, mask⟩
  constructor
  · intro w hw
    simp_all [Sample.linkRests]
  · rcases sending with _ | (_ | _) <;> cases ord <;> cases wr <;> simp_all [Sample.linkRests]

/-- Whether a part is at rest. -/
def Sample.rests (s : State) : Bool :=
  Sample.linkRests s.linkM && Sample.linkRests s.linkE && s.pins == s.drivenPins

/-- Whether a link is ready. -/
def Sample.readies (s : State) (l : Link) : Bool :=
  !s.deaf && !(l == .m && s.windowLost) && !s.restartPending && (s.link l).ordinary.isNone &&
    (s.link l).held.isEmpty

theorem Sample.rest {s : State} (h : Sample.rests s = true) : s.AtRest := by
  simp only [Sample.rests, Bool.and_eq_true, beq_iff_eq] at h
  exact ⟨Sample.linkRests_atRest h.1.1, Sample.linkRests_atRest h.1.2, h.2⟩

theorem Sample.ready {s : State} {l : Link} (h : (Sample.rests s && Sample.readies s l) = true) :
    s.AtRest ∧ s.Ready l := by
  simp only [Sample.readies, Bool.and_eq_true, Bool.not_eq_true', Option.isNone_iff_eq_none,
    List.isEmpty_iff, Bool.and_eq_false_imp, beq_iff_eq] at h
  obtain ⟨r, ⟨⟨⟨d, w⟩, p⟩, e⟩, q⟩ := h
  exact ⟨Sample.rest r, d, w, p, e, q⟩

/-- Whether every waiting manifest job can start. -/
theorem Sample.jobsCanStart {s : State}
    (h : (s.jobs.all fun j => match j with
      | .manifest n _ => s.slots[n].parsed.any fun q => s.keyState q.key != .revoked
      | .revoke .. => true) = true) : s.JobsCanStart := by
  intro n g m
  have k := List.all_eq_true.mp h _ m
  simpa [Option.any_eq_true] using k

/-- Whether the oldest waiting jobs end at their start, and the first later one starts. -/
theorem Sample.endAtStart {s : State} {jobs later : List Job} {named : List (Fin 12)}
    (h : (decide (jobs = (named.map fun n => .manifest n s.slots[n].gen) ++ later) &&
      decide named.Nodup &&
      (named.all fun n => s.slots[n].live && s.slots[n].parsed.any fun p =>
        s.keyState p.key == .revoked) &&
      (later.all fun j => match j with
        | .manifest n g => decide (n ∉ named) && s.slots[n].live && s.slots[n].gen == g &&
          s.slots[n].parsed.isSome
        | .revoke .. => true) &&
      (later.head?.all fun j => match j with
        | .manifest n _ => s.slots[n].parsed.all fun p => s.keyState p.key != .revoked
        | .revoke .. => true)) = true) : s.EndAtStart jobs named later := by
  simp only [Bool.and_eq_true, decide_eq_true_eq] at h
  obtain ⟨⟨⟨⟨order, distinct⟩, revoked⟩, live⟩, first⟩ := h
  refine ⟨order, distinct, fun n m => ?_, fun n g m => ?_, fun n g rest p e q => ?_⟩
  · simpa [Option.any_eq_true] using List.all_eq_true.mp revoked n m
  · simpa [and_assoc, Option.ne_none_iff_isSome] using List.all_eq_true.mp live _ m
  · subst e
    simp only [List.head?_cons, Option.all_some, q, bne_iff_ne] at first
    exact first

/-- The same of every state of a list. -/
theorem Sample.allRest {xs : List State} (h : xs.all Sample.rests = true) : ∀ s ∈ xs, s.AtRest :=
  fun s m => Sample.rest (List.all_eq_true.mp h s m)

theorem Sample.allReady {l : Link} {xs : List State}
    (h : (xs.all fun s => Sample.rests s && Sample.readies s l) = true) :
    ∀ s ∈ xs, s.AtRest ∧ s.Ready l :=
  fun s m => Sample.ready (List.all_eq_true.mp h s m)

/-- What a command answers, tested. -/
def Sample.then (o : Result) (p : State → Bool) : Bool :=
  match o with
  | .next t => p t
  | _ => false

/-- The status of the ordinary reply that waits on a link. -/
def Sample.status (s : State) (l : Link) : Option Status := (s.link l).ordinary.map fun r => r.status

/-- The payload of the ordinary reply that waits on a link. -/
def Sample.payload (s : State) (l : Link) : List Byte :=
  ((s.link l).ordinary.map fun r => r.payload).getD []

/-- An ordinary reply that waits to be sent. -/
def Sample.reply : Reply := { kind := 0x81, tag := 0, status := .ok, payload := [] }

/-- A link that sends an ordinary reply. -/
def Sample.sending : LinkState :=
  { LinkState.fresh with ordinary := some Sample.reply, sending := some .ordinary }

/-- Table 7-6's policy: dispositions, link masks and line masks, with the window of section 12.1. -/
def Sample.policy : Policy :=
  policyOfBytes ([2, 2, 2, 1, 1, 1, 1, 2] ++ [1, 2, 1, 1, 1, 1, 1, 1] ++
    [0x07, 0x02, 0x11, 0x01, 0x42, 0x80] ++ [0x08, 0x00, 0x00, 0x20, 0x00, 0x00] ++
    [149, 6, 1, 3, 4])

/-- A closed part that has entered VERIFY with that policy. -/
def Sample.verifying : State :=
  { State.reset with
    mode := .verify, selfTest := false, inForce := some Sample.policy
    classes := loadedClasses Sample.policy, lines := loadedLines Sample.policy
    window := { loadedWindow Sample.policy with count := 38, toTick := some 64000 } }

/-- That part with a tick due at a count. -/
def Sample.due (count : Nat) : State :=
  { Sample.verifying with
    window := { Sample.verifying.window with count := count, toTick := some 0 } }

/-- The fuses of a part closed with that policy. -/
def Sample.closedFuses : Fuses :=
  { Fuses.unburnt with
    closing := BitVec.ofNat 281 (leNat (blockBytes Sample.policy)) ||| BitVec.twoPow 281 280 }

/-- A manifest of class MAIN: one segment, the bytes "abc", version 0x0C40, ADVANCE, key 0, and a
signature of zeros. -/
def Sample.manifest : List Byte :=
  [0x01, 0x4D, 0x41, 0x49, 0x4E, 0x02, 1, 0, 0x40, 0x0C, 3, 0, 0, 0, 12, 1, 1, 0, 0, 0] ++
    zeros 28 ++ sha256 [0x61, 0x62, 0x63] ++ zeros 64

/-- Its parsed fields. -/
def Sample.parsed : Parsed :=
  { version := 3136, epoch := 3, imageLen := 3, exponent := 12, segCount := 1, flags := 1, key := 0,
    label := zeros 28 }

/-- A slot of class MAIN in LOADING with that manifest received. -/
def Sample.loadingSlot : Slot :=
  { Slot.freed 1 with
    state := .loading, cls := some 0, owner := some .m, buffer := Sample.manifest }

/-- The slot in CHECKING. -/
def Sample.checkingSlot : Slot :=
  { Sample.loadingSlot with state := .checking, parsed := some Sample.parsed, segMap := [false] }

/-- The slot VERIFIED. -/
def Sample.verifiedSlot : Slot :=
  { Sample.checkingSlot with state := .verified, segMap := [true], sig := .passed }

/-- A part in VERIFY with slot 0 of class MAIN as given and one attempt charged. -/
def Sample.withSlot (x : Slot) : State :=
  (Sample.verifying.setSlot 0 x).setClass 0 { Sample.verifying.classes[0] with attempts := 1 }

/-- Context SC0 claimed for segment 0 of slot 0. -/
def Sample.claim (received pending : Nat) (folded : List Byte) (draining : Bool) : Claim :=
  { slot := 0, gen := 1, seg := 0, len := 3, received := received, pendingChunks := pending,
    folded := folded, draining := draining }

/-- A chunk of SC0. -/
def Sample.chunk (data : List Byte) : Chunk :=
  { ctx := 0, slot := 0, gen := 1, offset := 0, data := data }

/-- The slot in CHECKING with SC0 open as given. -/
def Sample.streaming (c : Claim) : State :=
  (Sample.withSlot { Sample.checkingSlot with openCtxs := [0] }).setCtx 0 (some c)

/-- A published signature vector, RFC 6979 A.2.5 (P-256, SHA-256, message "sample"). -/
def Sample.message : List Byte := [0x73, 0x61, 0x6D, 0x70, 0x6C, 0x65]
def Sample.beBytes (v : Nat) : List Byte := (leBytes 32 v).reverse
def Sample.publicKey : List Byte :=
  Sample.beBytes 0x60FED4BA255A9D31C961EB74C6356D68C049B8923B61FA6CE669622E60F29FB6 ++
  Sample.beBytes 0x7903FE1008B8BC99A41AE9E95628BC64F2F1B20C2D7E9F5177A3C294D4462299
def Sample.signature : List Byte :=
  Sample.beBytes 0xEFD48B2AACB6A8FD1140DD9CD45E81D69D2C877B56AAF991C34D0EA84EAF3716 ++
  Sample.beBytes 0xF7CB1C942D657C41D436C7A1B6E29F65F3E900DBB9AFF4064DC4AB2F843ACDA8

/-! ### Well-formed commands: an ill-formed one for each check -/

theorem test_wellFormed_request :
    (Instr.segData .m ⟨0, zeros 1038, 0⟩).wellFormed = true ∧
      (Instr.segData .m ⟨0, zeros 1039, 0⟩).wellFormed = false := by decide +kernel

theorem test_wellFormed_frame :
    (Instr.frameHeld ⟨0x01, 0, zeros 1039, 0⟩).wellFormed = false ∧
      (Instr.badKindFrame .m ⟨0x99, 0, zeros 1039, 0⟩).wellFormed = false := by decide +kernel

theorem test_wellFormed_badKind :
    (Instr.badKindFrame .e ⟨0x01, 0, [], 0⟩).wellFormed = false ∧
      (Instr.badKindFrame .e ⟨0x99, 0, [], 0⟩).wellFormed = true := by decide +kernel

theorem test_wellFormed_abandon :
    (Instr.frameAbandoned .e (.lenOutOfRange 1040)).wellFormed = false ∧
      (Instr.frameAbandoned .e (.lenOutOfRange 1041)).wellFormed = true ∧
      (Instr.frameAbandoned .m .stopBitLow).wellFormed = false ∧
      (Instr.frameAbandoned .e .windowEnded).wellFormed = false := by decide +kernel

theorem test_wellFormed_strays :
    (Instr.fuseBurnComplete true [584]).wellFormed = true ∧
      (Instr.fuseBurnComplete true [585]).wellFormed = false := by decide +kernel

/-! ### Frames and named functions -/

/-- The check value of Table 6-5, note 2. -/
theorem test_crc_check_value :
    crc16 [0x31, 0x32, 0x33, 0x34, 0x35, 0x36, 0x37, 0x38, 0x39] = 0x29B1 := by decide +kernel

/-- FIPS 180-4's example "abc". -/
theorem test_sha256_abc : beNat (sha256 [0x61, 0x62, 0x63]) =
    0xba7816bf8f01cfea414140de5dae2223b00361a396177a9cb410ff61f20015ad := by decide +kernel

theorem test_ecdsa_vector :
    signatureGood (sha256 Sample.message) Sample.publicKey Sample.signature = true := by
  decide +kernel

theorem test_ecdsa_other_message :
    signatureGood (sha256 [0x74]) Sample.publicKey Sample.signature = false := by decide +kernel

/-- The reset ROM's reference is the digest of its table. -/
theorem test_reset_rom_passes : State.reset.romFault = none := by decide +kernel

/-- Frames written out byte by byte from Tables 11-1, 11-4 and 11-8, CRC by hand. -/
theorem test_decode_identify :
    commandOfBytes .m [0xA5, 0x02, 0x00, 0x01, 0x07, 0x7E, 0x2A] =
      some (.identify .m (goodRequest .identify 7 [])) := by decide +kernel

theorem test_decode_segOpen :
    commandOfBytes .e [0xA5, 0x05, 0x00, 0x13, 0x2A, 0x05, 0x34, 0x12, 0xD6, 0x2D] =
      some (.segOpen .e (goodRequest .segOpen 0x2A [5, 0x34, 0x12])) := by decide +kernel

theorem test_decode_badKind :
    commandOfBytes .e [0xA5, 0x03, 0x00, 0x99, 0x01, 0x09, 0x6E, 0xBB] =
      some (.badKindFrame .e ⟨0x99, 1, [9], 0xBB6E⟩) := by decide +kernel

/-- A LEN of 1 is no frame. -/
theorem test_decode_short : commandOfBytes .m [0xA5, 0x01, 0x00, 0x01, 0x00, 0x00] = none := by
  decide +kernel

/-- The table gives no bits, so a word spells no command and changes nothing. -/
theorem test_table_word : decodeTableWord 16 0x0101 = none ∧
    State.reset.withFetchWord 16 0x0101 = State.reset := ⟨rfl, rfl⟩

/-- The largest reply is SLOT_QUERY's, 96 bytes, and STATUS's is 66 (Table 11-1, 11.10). -/
theorem test_reply_sizes :
    (replyBytes { kind := 0x96, tag := 0, status := .ok,
                  payload := slotQueryPayload (Slot.freed 0) }).length = 96 ∧
      (replyBytes { kind := 0x82, tag := 0, status := .ok,
                    payload := statusPayload .m State.reset }).length = 66 := by decide +kernel

/-! ### One step each -/

/-- IDENTIFY in STARTUP: vendor, part, revision, serial, mode 0, closed fuse 0 (R181); its reply takes TXD
from idle (R179). -/
theorem test_identify :
    Sample.then (exec (.identify .e (goodRequest .identify 9 [])) State.reset) (fun t =>
      Sample.payload t .e == [0x56, 0x41, 0x40, 0x06, 1, 0, 0, 0, 0, 0, 0, 0, 0, 0, 0] &&
        !t.pins.txdIdle) = true := by
  decide +kernel

/-- After reset 12 slots are FREE and 4 contexts IDLE (R1, R37). -/
theorem test_status :
    Sample.then (exec (.status .m (goodRequest .status 0 [])) State.reset) (fun t =>
      slice (Sample.payload t .m) 53 5 == [4, 12, 0, 1, 0]) = true := by decide +kernel

/-- A wider mask raises ATTN at once for a flag set before (R164). -/
theorem test_eventMask_raises_attn :
    Sample.then (exec (.eventMask .e (goodRequest .eventMask 0 [0xFF, 0xFF]))
      { State.reset with linkE := { LinkState.fresh with flags := 2 } }) (fun t =>
      t.pins.attnE && !t.pins.attnM && Sample.payload t .e == [0xFF, 0x01, 2, 0]) = true := by
  decide +kernel

theorem test_eventClear :
    Sample.then (exec (.eventClear .m (goodRequest .eventClear 0 [0x03, 0x00]))
      { State.reset with linkM := { LinkState.fresh with flags := 0x106 } }) (fun t =>
      t.linkM.flags == 0x104) = true := by decide +kernel

/-- Table 10-5: a second WAIT is refused WAIT_BUSY and leaves the parked one. -/
theorem test_wait_busy :
    Sample.then (exec (.wait .e (goodRequest .wait 4 [0x08, 0x00]))
      { State.reset with linkE := { LinkState.fresh with parked := some ⟨0x109, 3⟩ } }) (fun t =>
      Sample.status t .e == some .waitBusy && t.linkE.parked == some ⟨0x109, 3⟩) = true := by
  decide +kernel

theorem test_wait_answered_at_once :
    Sample.then (exec (.wait .e (goodRequest .wait 4 [0x02, 0x00]))
      { State.reset with linkE := { LinkState.fresh with flags := 6 } }) (fun t =>
      t.linkE.waitReply == some ⟨0x85, 4, .ok, [6, 0]⟩ && t.linkE.ordinary.isNone) = true := by
  decide +kernel

/-- The lowest FREE slot is claimed with its generation raised (R6). -/
theorem test_slotOpen :
    Sample.then (exec (.slotOpen .m (goodRequest .slotOpen 0 [2]))
      (Sample.verifying.setSlot 0 Sample.loadingSlot)) (fun t =>
      Sample.payload t .m == [1, 1] && t.classes[2].attempts == 1) = true := by decide +kernel

/-- ENGN is opened on Link E alone (Table 7-6). -/
theorem test_slotOpen_link :
    Sample.then (exec (.slotOpen .m (goodRequest .slotOpen 0 [1])) Sample.verifying) (fun t =>
      Sample.status t .m == some .linkDenied && t.slots == Sample.verifying.slots) = true := by
  decide +kernel

/-- A repeat of bytes already stored is refused OFFSET with the count (R7). -/
theorem test_manData_repeat :
    Sample.then (exec (.manData .m (goodRequest .manData 0 [0, 0, 0, 0x55]))
      (Sample.withSlot Sample.loadingSlot)) (fun t =>
      Sample.status t .m == some .offset && Sample.payload t .m == [0x90, 0]) = true := by
  decide +kernel

/-- N 1 and epoch 3; the slot is CHECKING and the idle unit starts the job (R14, R60). -/
theorem test_manClose :
    Sample.then (exec (.manClose .m (goodRequest .manClose 0 [0]))
      (Sample.withSlot Sample.loadingSlot)) (fun t =>
      Sample.payload t .m == [1, 0, 3] && t.slots[0] == Sample.checkingSlot && t.active.isSome) =
      true := by decide +kernel

/-- A floor of 4 rejects epoch 3 with ROLLBACK, E and F in the detail (R32, Table 11-13). -/
theorem test_manClose_rollback :
    Sample.then (exec (.manClose .m (goodRequest .manClose 0 [0]))
      { Sample.withSlot Sample.loadingSlot with
        fuses := { Fuses.unburnt with floors := put Fuses.unburnt.floors 0 (thermometer 4) } })
      (fun t => Sample.status t .m == some (.rejects .rollback) &&
        t.faults[1].detail == [3, 4, 0, 0, 0, 0, 0, 0] && t.linkE.flags == 0x081) = true := by
  decide +kernel

/-- Segment 0 is 3 bytes long (R27). -/
theorem test_segOpen :
    Sample.then (exec (.segOpen .m (goodRequest .segOpen 0 [0, 0, 0]))
      (Sample.withSlot Sample.checkingSlot)) (fun t =>
      Sample.payload t .m == [0, 3, 0, 0, 0] && t.slots[0].openCtxs == [0]) = true := by
  decide +kernel

/-- A chunk past the segment's end is refused whole (R45). -/
theorem test_segData_overflow :
    Sample.then (exec (.segData .m (goodRequest .segData 0 [0, 0, 1, 0, 0, 2, 0, 0x63, 0x64]))
      (Sample.streaming (Sample.claim 2 0 [0x61, 0x62] false))) (fun t =>
      Sample.status t .m == some .overflow && Sample.payload t .m == [2, 0, 0, 0]) = true := by
  decide +kernel

/-- A stale generation is refused BAD_INDEX with a count of 0 (R44, R47). -/
theorem test_segData_stale :
    Sample.then (exec (.segData .m (goodRequest .segData 0 [0, 0, 2, 0, 0, 2, 0, 0x63]))
      (Sample.streaming (Sample.claim 2 0 [0x61, 0x62] false))) (fun t =>
      Sample.status t .m == some .badIndex && Sample.payload t .m == [0, 0, 0, 0]) = true := by
  decide +kernel

/-- Completion within the SEG_CLOSE: IDLE, and the segment matched (R48, R51). -/
theorem test_segClose_matches :
    Sample.then (exec (.segClose .m (goodRequest .segClose 0 [0, 0, 1, 0, 0]))
      (Sample.streaming (Sample.claim 3 0 [0x61, 0x62, 0x63] false))) (fun t =>
      Sample.payload t .m == [0] && t.slots[0].segMap == [true]) = true := by decide +kernel

theorem test_slotQuery :
    Sample.then (exec (.slotQuery .e (goodRequest .slotQuery 0 [0]))
      (Sample.withSlot Sample.verifiedSlot)) (fun t =>
      slice (Sample.payload t .e) 0 19 ==
          [4, 1, 0x90, 0, 3, 0, 0, 0x40, 0x0C, 3, 3, 0, 0, 0, 12, 1, 1, 0, 0] &&
        slice (Sample.payload t .e) 47 3 == [1, 0, 1]) = true := by decide +kernel

/-- A drop from the other link is refused (R2). -/
theorem test_slotDrop_owner :
    Sample.then (exec (.slotDrop .e (goodRequest .slotDrop 0 [0]))
      (Sample.withSlot Sample.checkingSlot)) (fun t =>
      Sample.status t .e == some .notOwner && t.slots[0] == Sample.checkingSlot) = true := by
  decide +kernel

/-- The drop of the third attempt closes a REQUIRED class (R111) and locks its lines. -/
theorem test_slotDrop_exhausts :
    Sample.then (exec (.slotDrop .m (goodRequest .slotDrop 0 [0]))
      ((Sample.withSlot Sample.checkingSlot).setClass 0
        { Sample.verifying.classes[0] with attempts := 3 })) (fun t =>
      t.classes[0].state == .failed && t.lines[0].state == .locked && t.lines[1].state == .held) =
      true := by decide +kernel

/-- Table 7-7, first row: declining FNSH locks FIN_GO alone. -/
theorem test_classDecline :
    Sample.then (exec (.classDecline .m (goodRequest .classDecline 0 [6])) Sample.verifying)
      (fun t => t.classes[6].state == .declined && t.lines[4].state == .locked &&
        t.lines[0].state == .held && t.linkE.flags == 0x006) = true := by decide +kernel

/-- Table 8-4: the extension reloads 149. -/
theorem test_windowExtend :
    Sample.then (exec (.windowExtend .m (goodRequest .windowExtend 0 [])) Sample.verifying)
      (fun t => Sample.payload t .m == [149, 1] && t.window.toTick == some 64000) = true := by
  decide +kernel

/-- With R 0, an extension taken before the expiry tick puts that tick off (R133). -/
theorem test_windowExtend_before_expiry :
    Sample.then (exec (.windowExtend .m (goodRequest .windowExtend 0 []))
      { Sample.due 0 with window := { (Sample.due 0).window with reload := 0 } }) (fun t =>
      t.window.count == 0 && t.expiryTick == t && t.tick == t) = true := by decide +kernel

/-- Table 12-8: MAIN from floor 0 with E 3 and MAX_STEP 4. -/
theorem test_floorAdvance :
    Sample.then (exec (.floorAdvance .m (goodRequest .floorAdvance 0 [0]))
      (Sample.withSlot Sample.verifiedSlot)) (fun t =>
      Sample.payload t .m == [0, 3] && (t.fuseOp.map fun o => o.burnList) == some [1, 2, 3]) =
      true := by decide +kernel

/-- An entry never written: EMPTY, mask 0, blank (R77). -/
theorem test_keyQuery_blank :
    Sample.then (exec (.keyQuery .e (goodRequest .keyQuery 0 [9])) State.reset) (fun t =>
      (Sample.payload t .e).take 10 == zeros 10 && byteAt (Sample.payload t .e) 18 == 1) = true := by
  decide +kernel

/-- Table 5-6, last row: root 1 cannot be revoked by the revoked root 0. -/
theorem test_keyRevoke_badSigner :
    Sample.then (exec (.keyRevoke .m (goodRequest .keyRevoke 0 ([1, 0] ++ zeros 64)))
      { Sample.verifying with fuses := { Fuses.unburnt with revoke := 1 } }) (fun t =>
      Sample.status t .m == some .badSigner && t.reserved == false) = true := by decide +kernel

set_option maxRecDepth 10000 in
/-- A root has no OTP entry (R84). -/
theorem test_keyEnroll_root :
    Sample.then (exec (.keyEnroll .m (goodRequest .keyEnroll 0 ([1, 0x12, 0x80] ++ zeros 71)))
      { State.reset with mode := .provision, selfTest := false }) (fun t =>
      Sample.status t .m == some .badIndex && t.fuseOp.isNone) = true := by decide +kernel

/-- Table 5-1: data bit 7 of byte 0 is fuse 15, and the label's first byte begins at fuse 520. -/
theorem test_enrolment_fuses :
    (enrolmentBits 0x12 [0x80] [0x01] == BitVec.twoPow 585 1 ||| BitVec.twoPow 585 4 |||
      BitVec.twoPow 585 15 ||| BitVec.twoPow 585 520) = true := by decide +kernel

/-- The clamps of R145. -/
theorem test_policySet_clamps :
    Sample.then (exec (.policySet .m (goodRequest .policySet 0
        (zeros 8 ++ [0xFF] ++ zeros 19 ++ [9, 8, 4, 16, 0])))
      { State.reset with mode := .provision, selfTest := false }) (fun t =>
      Sample.payload t .m == [0] ++ zeros 8 ++ [3] ++ zeros 19 ++ [9, 7, 3, 15, 1]) = true := by
  decide +kernel

/-- The staging defaults (R144). -/
theorem test_policyGet_defaults :
    Sample.then (exec (.policyGet .m (goodRequest .policyGet 0 []))
      { State.reset with mode := .provision, selfTest := false }) (fun t =>
      (Sample.payload t .m).drop 29 == [149, 6, 1, 3, 4]) = true := by decide +kernel

/-- The default staging fails condition 1 (R147). -/
theorem test_provisionClose_invalid :
    Sample.then (exec (.provisionClose .m (goodRequest .provisionClose 0 []))
      { State.reset with mode := .provision, selfTest := false }) (fun t =>
      Sample.status t .m == some .policyInvalid && Sample.payload t .m == [1, 0, 0, 0]) = true := by
  decide +kernel

/-- An empty record reads NONE (R160). -/
theorem test_faultRead_empty :
    Sample.then (exec (.faultRead .m (goodRequest .faultRead 0 [3])) State.reset) (fun t =>
      Sample.payload t .m == [3] ++ zeros 6 ++ [0xFF] ++ zeros 14) = true := by decide +kernel

/-- On Link E, RESTART is refused and changes nothing (R152). -/
theorem test_restart_denied :
    Sample.then (exec (.restart .e (goodRequest .restart 0 [])) State.reset) (fun t =>
      Sample.status t .e == some .linkDenied && t.restartPending == false) = true := by decide +kernel

/-- The last chunk of a DRAINING context completes it, and the mismatch names segment 0 (R22). -/
theorem test_chunkDigested_mismatch :
    Sample.then (exec .chunkDigested
      { Sample.streaming (Sample.claim 3 1 [] true) with
        core := some (Sample.chunk [0x61, 0x62, 0x64]) }) (fun t =>
      t.slots[0].reason == some .segMismatch && t.faults[0].seg == some 0 &&
        (t.faults[0].detail).take 4 == [0xBA, 0x78, 0x16, 0xBF] && t.ctxs[0].isNone) = true := by
  decide +kernel

/-- Table 3-7: a chunk of a released claim leaves nothing in the new claim. -/
theorem test_chunkDigested_discards :
    Sample.then (exec .chunkDigested
      { Sample.streaming { Sample.claim 0 0 [] false with gen := 2 } with
        core := some (Sample.chunk [0x61]) }) (fun t =>
      (t.ctxs[0].map fun c => c.folded) == some [] && t.core.isNone) = true := by decide +kernel

/-- Table 1-10, last row: the signature pass after a full map makes the slot and its class VERIFIED,
and the line that needs MAIN with SCAN stays HELD. -/
theorem test_manifestJobEnd_verifies :
    Sample.then (exec .manifestJobEnd
      { Sample.withSlot { Sample.checkingSlot with segMap := [true] } with
        active := some (.manifest 0 1 Sample.message Sample.publicKey Sample.signature) }) (fun t =>
      t.slots[0].state == .verified && t.classes[0].verifiedSlot == some 0 &&
        t.lines[2].state == .held && t.linkM.flags == 0x003) = true := by decide +kernel

/-- R69: the signer in the detail, the target as key index, FAULT and FUSE_DONE set. -/
theorem test_revokeJobEnd_fails :
    Sample.then (exec .revokeJobEnd
      { Sample.verifying with
        reserved := true, revoking := some 4
        active := some (.revoke .m 4 1 [] (zeros 64) (zeros 64)) }) (fun t =>
      t.faults[0].detail == [1, 0, 0, 0, 0, 0, 0, 0] && t.faults[0].key == some 4 &&
        t.reserved == false && t.linkE.flags == 0x0C0) = true := by decide +kernel

/-- Table 6-7: fuse 13 reads 0 after its burn, over a floor of 12 with target 15. -/
theorem test_fuseBurn_fault :
    Sample.then (exec (.fuseBurnComplete false [])
      { Sample.verifying with
        fuses := { Fuses.unburnt with floors := put Fuses.unburnt.floors 4 (thermometer 12) }
        fuseOp := some { kind := .floor 6 4 15, burnList := [12, 13, 14, 15], position := 1,
                         link := .m } }) (fun t =>
      t.faults[0].detail == [13, 12, 15, 0, 0, 0, 0, 0] && t.fuseOp.isNone) = true := by
  decide +kernel

/-- Section 6.9, note 4: fuse 14 reads 1 with 13 at 0; F is 13. -/
theorem test_fuseBurn_stray :
    Sample.then (exec (.fuseBurnComplete false [14])
      { Sample.verifying with
        fuses := { Fuses.unburnt with floors := put Fuses.unburnt.floors 4 (thermometer 12) }
        fuseOp := some { kind := .floor 6 4 15, burnList := [12, 13, 14, 15], position := 1,
                         link := .m } }) (fun t =>
      t.faults[0].detail == [13, 13, 15, 0, 0, 0, 0, 0] &&
        (t.floorFault.map fun r => r.detail) == some [13, 13, 14, 0, 0, 0, 0, 0]) = true := by
  decide +kernel

/-- A part never provisioned passes its self-test into PROVISION (R141). -/
theorem test_selftest_provision :
    Sample.then (exec .selftestComplete State.reset) (fun t =>
      t.mode == .provision && t.linkM.flags == 0) = true := by decide +kernel

/-- Table 9-5: with MAX_RETRY 3 a count of 4 settles BLOCKED with detail 4 and 3. -/
theorem test_selftest_retry_limit :
    Sample.then (exec .selftestComplete
      { State.reset with fuses := Sample.closedFuses, failedCount := 4 }) (fun t =>
      t.mode == .settled && t.verdict == .blocked && (t.faults[0].detail).take 2 == [4, 3] &&
        t.window == Window.stopped) = true := by decide +kernel

/-- Table 8-4: the tick to 37 posts WINDOW_LOW. -/
theorem test_tick_windowLow :
    Sample.then (exec .bootWindowTick (Sample.due 38)) (fun t =>
      t.window.count == 37 && t.linkM.flags == 0x010 && t.linkE.flags == 0x010) = true := by
  decide +kernel

/-- Between ticks the count does not change (R129). -/
theorem test_tick_not_due :
    Sample.then (exec .bootWindowTick Sample.verifying) (fun t => t == Sample.verifying) = true := by
  decide +kernel

/-- The window fault is stored before the slot fault (R134). -/
theorem test_expiry_order :
    Sample.then (exec .bootWindowExpiry
      { Sample.withSlot Sample.checkingSlot with
        window := { (Sample.due 0).window with extUsed := 1 } }) (fun t =>
      t.faults[1].slot == none && t.faults[1].detail == [1, 149, 6, 0, 0, 0, 0, 0] &&
        t.faults[2].slot == some 0 && t.verdict == .blocked && t.mode == .settled) = true := by
  decide +kernel

theorem test_coldReset_brownOut_holds :
    Sample.then (exec (.coldReset .brownOut) Sample.verifying) (fun t =>
      t.mode == .startup && t.selfTest == false && t.supplyLow && t.cause == ⟨.power, 1⟩) = true := by
  decide +kernel

/-- At 255 the count stays 255 (R154). -/
theorem test_resetN_counts :
    Sample.then (exec .resetNFall { Sample.verifying with failedCount := 255 }) (fun t =>
      t.failedCount == 255 && t.cause == ⟨.pin, 3⟩ && t.selfTest == false) = true := by decide +kernel

theorem test_resetN_rise :
    Sample.then (exec .resetNRise { State.reset with resetNLow := true, selfTest := false })
      (fun t => t.selfTest && !t.resetNLow) = true := by decide +kernel

theorem test_supply_recovered_with_resetN_low :
    Sample.then (exec .supplyRecovered
      { State.reset with resetNLow := true, supplyLow := true, selfTest := false }) (fun t =>
      t.selfTest == false && !t.supplyLow) = true := by decide +kernel

/-- Table 11-15: a third complete frame behind a reply is discarded with LINK_ERROR. -/
theorem test_frameHeld_overrun :
    Sample.then (exec (.frameHeld ⟨0x02, 4, [], 0⟩)
      { State.reset with
        linkE := { Sample.sending with held := [⟨0x02, 2, [], 0⟩, ⟨0x02, 3, [], 0⟩] } }) (fun t =>
      t.linkE.held.map (fun f => f.tag) == [2, 3] && t.linkE.flags == 0x100 &&
        t.linkM.flags == 0) = true := by decide +kernel

theorem test_frameAbandoned :
    Sample.then (exec (.frameAbandoned .m .windowEnded) State.reset) (fun t =>
      t.linkM.flags == 0x100 && t.linkE.flags == 0) = true := by decide +kernel

theorem test_frameGapTimeout :
    Sample.then (exec .frameGapTimeout
      { State.reset with linkE := { LinkState.fresh with rx := .assembling [0xA5] } }) (fun t =>
      t.linkE.rx == .hunting && t.linkE.flags == 0x100) = true := by decide +kernel

/-- The read OK reply of a RESTART is the warm reset (R152). -/
theorem test_replyLeft_restarts :
    Sample.then (exec (.replyLeft .m)
      { Sample.verifying with linkM := Sample.sending, restartPending := true }) (fun t =>
      t.cause == ⟨.restart, 5⟩ && t.failedCount == 1 && t.selfTest) = true := by decide +kernel

/-- Table 11-15: when reply 1 leaves, the oldest held frame is taken. -/
theorem test_replyLeft_takes_held :
    Sample.then (exec (.replyLeft .e)
      { State.reset with
        linkE := { Sample.sending with
          held := [requestFrame .identify (goodRequest .identify 2 []), ⟨0x02, 3, [], 0⟩] } })
      (fun t => (t.linkE.ordinary.map fun r => r.tag) == some 2 && t.linkE.held.length == 1) =
      true := by decide +kernel

/-- A held WAIT is answered with the flags of the event that takes it, and its reply leaves before that
of the request held behind it (R165, R171, R184; assumption 25). -/
theorem test_replyLeft_held_wait :
    Sample.then (exec (.replyLeft .e)
      { Sample.verifying with
        linkE := { Sample.sending with
          flags := 1
          held := [requestFrame .wait (goodRequest .wait 2 [0x01, 0x00]),
                   requestFrame .classDecline (goodRequest .classDecline 3 [6])] } })
      (fun t => t.linkE.waitReply == some ⟨0x85, 2, .ok, [1, 0]⟩ && t.linkE.sending == some .wait &&
        (t.linkE.ordinary.map fun r => r.tag) == some 3 && t.linkE.flags == 0x007) = true := by
  decide +kernel

theorem test_replyRemoved :
    Sample.then (exec .replyRemovedUnread { State.reset with linkM := Sample.sending }) (fun t =>
      t.linkM.ordinary.isNone && t.linkM.flags == 0x100 && t.linkM.rx == .assembling [0xA5] &&
        t.pins.sdoDriven) = true := by decide +kernel

/-- A frame in a window that is ignored is not taken (R173). -/
theorem test_ignored_window :
    Sample.then (exec (.identify .m (goodRequest .identify 0 []))
      { State.reset with spi := .request, windowIgnored := true }) (fun t =>
      t.linkM.ordinary.isNone && t.linkM.flags == 0 && t.windowIgnored && t.spi == .spent) = true := by
  decide +kernel

/-- From the start of a window SDO carries the oldest ready reply, from 0x5A to its CRC (R173, R175); while
CS_N is high it is not driven. -/
theorem test_window_offers_reply :
    let offered : State := { State.reset with linkM := Sample.sending }.windowFalls
    offered.drivenPins.sdoDriven = true ∧
      offered.drivenPins.sdo = [0x5A, 3, 0, 0x81, 0, 0] ++ leBytes 2 (crc16 [3, 0, 0x81, 0, 0]).toNat ∧
      State.reset.windowFalls.drivenPins.sdo = [] ∧
      offered.windowRises.drivenPins.sdoDriven = false := by decide +kernel

/-- After a reply was read, SDO carries 0x00 for the rest of the window (R175). -/
theorem test_window_after_reply :
    Sample.then (exec (.replyLeft .m)
      (State.drive { State.reset with linkM := Sample.sending, spi := .begun (some .ordinary) }))
      (fun t => t.linkM.ordinary.isNone && t.spi == .spent && t.pins.sdoDriven && t.pins.sdo == []) =
      true := by decide +kernel

/-- A request window over an unread reply: the SYNC's LINK_ERROR answers the parked WAIT before the
request, which clears it, is taken; the WAIT reply goes first (R166, R171, R176). -/
theorem test_unread_then_clear :
    Sample.then (exec (.eventClear .m (goodRequest .eventClear 0 [0x00, 0x01]))
      { State.reset with linkM := { Sample.sending with parked := some ⟨0x100, 6⟩ } }) (fun t =>
      t.linkM.waitReply == some ⟨0x85, 6, .ok, [0x00, 0x01]⟩ && t.linkM.flags == 0 &&
        t.linkM.sending == some .wait && Sample.status t .m == some .ok) = true := by decide +kernel

/-- A refused CRC answers a WAIT on LINK_ERROR in the same event, and the ordinary reply goes first
(R184). -/
theorem test_badKindFrame_badCrc :
    Sample.then (exec (.badKindFrame .e ⟨0x99, 1, [], 0⟩)
      { State.reset with linkE := { LinkState.fresh with parked := some ⟨0x100, 6⟩ } }) (fun t =>
      Sample.status t .e == some .badCrc && t.linkE.waitReply.isSome &&
        t.linkE.sending == some .ordinary) = true := by decide +kernel

/-- A gap outside a frame, and a stop bit that reads low within one, are not these rows' (R177). -/
theorem test_linkE_premises :
    (Sample.then (exec .frameGapTimeout State.reset) (fun t => t.linkE.flags == 0) &&
      Sample.then (exec .stopBitLowWhileHunting
        { State.reset with linkE := { LinkState.fresh with rx := .assembling [0xA5] } }) (fun t =>
        t.linkE.flags == 0 && t.linkE.rx == .assembling [0xA5])) = true := by decide +kernel

/-- A byte of 0xA5 begins a Link E frame, and any other is discarded without LINK_ERROR (R177). -/
theorem test_hearE :
    (State.reset.hearE 0xA5).linkE.rx = .assembling [0xA5] ∧ State.reset.hearE 0x5A = State.reset := by
  decide +kernel

theorem test_stopBitLow :
    Sample.then (exec .stopBitLowWhileHunting State.reset) (fun t =>
      t.linkE.flags == 0x100 && t.linkM.flags == 0) = true := by decide +kernel

theorem test_bootClock_wraps :
    Sample.then (exec .bootClockMicrosecond { State.reset with bootClock := 0xFFFFFFFFFFFF })
      (fun t => t.bootClock == 0) = true := by decide +kernel

/-- A tick that is due is taken before the microsecond (assumption 9). -/
theorem test_bootClock_takes_tick :
    Sample.then (exec .bootClockMicrosecond (Sample.due 38)) (fun t =>
      t.window.count == 37 && t.window.toTick == some 63999 && t.bootClock == 1) = true := by
  decide +kernel

/-- Table 2-2: segment counts at the limits. -/
theorem test_geometry_limits :
    segmentCount 1 12 = 1 ∧ segmentCount 4097 12 = 2 ∧ segmentCount 1048577 12 = 257 ∧
      segmentCount 1048577 13 = 129 ∧ segmentCount 16777216 16 = 256 := by decide +kernel

/-! ### Witnesses: states and operands that meet a statement's hypotheses -/

/-- For the statements of requests that ask for rest and a ready link alone: IDENTIFY, STATUS,
EVENT_MASK, EVENT_CLEAR, RESTART. -/
theorem witness_ready_links : (State.reset.AtRest ∧ State.reset.Ready .m) ∧
    (State.reset.AtRest ∧ State.reset.Ready .e) :=
  ⟨Sample.ready (by decide +kernel), Sample.ready (by decide +kernel)⟩

/-- WaitTakes, its four outcomes: a mask of ignored bits, a parked WAIT, a WAIT reply that waits, no
named flag set, and one set. -/
theorem witness_WaitTakes :
    ((0xFE00 : Half) &&& 0x1FF = 0) ∧
    (let s := { State.reset with linkM := { LinkState.fresh with parked := some ⟨1, 0⟩ } }
     (s.AtRest ∧ s.Ready .m) ∧ (s.link .m).parked ≠ none) ∧
    (let s := State.drive { State.reset with
        linkE := { LinkState.fresh with waitReply := some Sample.reply, sending := some .wait } }
     (s.AtRest ∧ s.Ready .e) ∧ (s.link .e).waitReply ≠ none) ∧
    ((State.reset.link .m).flags &&& ((0x100 : Half) &&& 0x1FF) = 0) ∧
    (let s := { State.reset with linkE := { LinkState.fresh with flags := 0x100 } }
     (s.AtRest ∧ s.Ready .e) ∧ (s.link .e).flags &&& ((0x100 : Half) &&& 0x1FF) ≠ 0) :=
  ⟨by decide, ⟨Sample.ready (by decide +kernel), by decide +kernel⟩,
   ⟨Sample.ready (by decide +kernel), by decide +kernel⟩, by decide +kernel,
   ⟨Sample.ready (by decide +kernel), by decide +kernel⟩⟩

/-- FaultReadReports and KeyQueryReports: an index just above the last, and the last. -/
theorem witness_FaultReadReports :
    (State.reset.AtRest ∧ State.reset.Ready .m) ∧ 3 < (4 : Byte).toNat ∧
      (3 : Byte) = byteOf (3 : Fin 4) ∧ State.reset.faults[3].detail.length = 8 :=
  ⟨Sample.ready (by decide +kernel), by decide +kernel⟩

theorem witness_KeyQueryReports :
    (State.reset.AtRest ∧ State.reset.Ready .e) ∧ 9 < (10 : Byte).toNat ∧
      (1 : Byte) = byteOf (1 : Fin 2) ∧ (2 : Byte).toNat = (0 : Fin 8).val + 2 ∧
      (9 : Byte).toNat = (7 : Fin 8).val + 2 :=
  ⟨Sample.ready (by decide +kernel), by decide +kernel⟩

/-- SlotOpenClaims: the first slot at no attempt, and the last at two attempts. -/
theorem witness_SlotOpenClaims :
    ((Sample.verifying.AtRest ∧ Sample.verifying.Ready .m) ∧ Sample.verifying.mode = .verify ∧
      Sample.verifying.classes[0].state = .pending ∧
      Sample.verifying.classes[0].linkMask.getLsbD 0 = true ∧
      Sample.verifying.classes[0].attempts < 3 ∧ Sample.verifying.slots[0].state = .free) ∧
    (let s := { Sample.verifying with
        slots := put (tabulate fun _ => Sample.loadingSlot) 11 (Slot.freed 0)
        classes := put Sample.verifying.classes 1
          { Sample.verifying.classes[1] with attempts := 2 } }
     (s.AtRest ∧ s.Ready .e) ∧ s.classes[1].linkMask.getLsbD 1 = true ∧ s.classes[1].attempts < 3 ∧
       s.slots[11].state = .free ∧ (∀ j : Fin 12, j < 11 → s.slots[j].state ≠ .free)) :=
  ⟨⟨Sample.ready (by decide +kernel), by decide +kernel⟩,
   ⟨Sample.ready (by decide +kernel), by decide +kernel⟩⟩

/-- SlotOpenRefuses: each refusal of Table 7-3, with the class index at 7 and just above. -/
theorem witness_SlotOpenRefuses :
    let at7 (x : ClassRec) : State := { Sample.verifying with classes := put Sample.verifying.classes 7 x }
    let x : ClassRec := Sample.verifying.classes[7]
    let full : State := { at7 { x with attempts := 2 } with slots := tabulate fun _ => Sample.loadingSlot }
    (full.AtRest ∧ full.Ready .m) ∧
    (State.reset.mode ≠ .verify) ∧ (Sample.verifying.mode = .verify ∧ 7 < (8 : Byte).toNat) ∧
    ((7 : Byte) = byteOf (7 : Fin 8)) ∧
    ((at7 ClassRec.unused).classes[7].state = .unused) ∧
    ((at7 { x with state := .verified }).classes[7].state = .verified) ∧
    ((at7 { x with state := .declined }).classes[7].state = .declined) ∧
    ((at7 { x with state := .failed }).classes[7].state = .failed) ∧
    (x.state = .pending ∧ x.linkMask.getLsbD 1 = false) ∧
    (x.linkMask.getLsbD 0 = true ∧ (at7 { x with attempts := 3 }).classes[7].attempts = 3) ∧
    (full.classes[7].attempts ≠ 3 ∧ ∀ i : Fin 12, full.slots[i].state ≠ .free) := by
  refine ⟨Sample.ready (by decide +kernel), ?_⟩
  decide +kernel

/-- ManDataAppends: slot 12, another link's request, a slot that is not LOADING, no data and 1,025 bytes,
the offset expected and another, and the last byte of a full buffer and past it. -/
theorem witness_ManDataAppends :
    let s := Sample.withSlot Sample.loadingSlot
    let closed := Sample.withSlot Sample.checkingSlot
    let brim := Sample.withSlot { Sample.loadingSlot with buffer := zeros 8303 }
    (∀ x ∈ [s, closed, brim], x.AtRest ∧ x.Ready .m) ∧ (s.AtRest ∧ s.Ready .e) ∧
      s.mode = .verify ∧ 11 < (12 : Byte).toNat ∧
      (s.slots[0].state ≠ .free ∧ s.slots[0].owner ≠ some .e) ∧
      (closed.slots[0].owner = some .m ∧ closed.slots[0].state ≠ .loading) ∧
      s.slots[0].state = .loading ∧ s.slots[0].owner = some .m ∧
      (1024 < (zeros 1025).length ∧ (zeros 1025).length ≤ 1035) ∧
      144 = s.slots[0].buffer.length ∧ 0 ≠ s.slots[0].buffer.length ∧
      8303 = brim.slots[0].buffer.length ∧ ¬(8304 < 8303 + (zeros 1).length) ∧
      8304 < 8303 + (zeros 2).length ∧ (8303 : Nat) < 65536 := by
  refine ⟨Sample.allReady (by decide +kernel), Sample.ready (by decide +kernel), ?_⟩
  decide +kernel

/-- The manifest used below passes checks 1 to 7, with its parsed fields. -/
theorem witness_manifest_passes :
    (Sample.withSlot Sample.loadingSlot).manifestChecks 0 Sample.manifest = .ok Sample.parsed := by
  decide +kernel

/-- ManifestChecksInOrder: a buffer of 48 bytes or more with a wrong header; 47 bytes, and format 2;
one byte too many; key 10; an EMPTY key; a REVOKED one; a key without the role; a floor above the
epoch; and a floor equal to it. -/
theorem witness_ManifestChecksInOrder :
    let b := Sample.manifest
    let s := Sample.verifying
    let header (b : List Byte) : Bool := decide (byteAt b 0 = 0x01 ∧ byteAt b 5 = 0x02 ∧
      classTag (byteAt b 7).toNat = some (slice b 1 4))
    let geometry (b : List Byte) : Bool := geometryOk (readHead b) b.length 0
    let revoked : State := { s with fuses := { s.fuses with revoke := 1 } }
    let enrolled : State := { s with fuses := { s.fuses with
      entries := put s.fuses.entries 0 (BitVec.twoPow 585 584) } }
    let floored (n : Nat) : State := { s with fuses := { s.fuses with
      floors := put s.fuses.floors 0 (thermometer n) } }
    (48 ≤ (b.set 0 0).length ∧ header (b.set 0 0) = false) ∧ (b.take 47).length < 48 ∧
    (header (b.set 6 2) = true ∧ byteAt (b.set 6 2) 6 ≠ 1) ∧
    (header (b ++ [0]) = true ∧ byteAt (b ++ [0]) 6 = 1 ∧ geometry (b ++ [0]) = false) ∧
    (geometry (b.set 18 10) = true ∧ 9 < (byteAt (b.set 18 10) 18).toNat) ∧
    (geometry (b.set 18 2) = true ∧ s.keyState 2 = .empty) ∧
    (header b = true ∧ geometry b = true ∧ revoked.keyState 0 = .revoked) ∧
    (enrolled.keyState 2 = .active ∧ (enrolled.roleMask 2).getLsbD 0 = false) ∧
    ((floored 4).keyState 0 = .active ∧ ((floored 4).roleMask 0).getLsbD 0 = true ∧
      leNat (slice b 8 2) / 1024 < (floored 4).floor 0) ∧
    ((floored 3).floor 0 ≤ leNat (slice b 8 2) / 1024) := by decide +kernel

/-- ManCloseQueuesJob: slot 12, another link's request, a CHECKING slot, six jobs waiting, five behind a
job in progress, and an idle unit. -/
theorem witness_ManCloseQueuesJob :
    let s := Sample.withSlot Sample.loadingSlot
    let closed := Sample.withSlot Sample.checkingSlot
    let job : Job := .revoke .m 4 0 (zeros 64)
    let busy (n : Nat) : State :=
      { s with jobs := List.replicate n job, active := some (.revoke .m 4 0 [] [] []) }
    (∀ x ∈ [busy 6, busy 5, s, closed], x.AtRest ∧ x.Ready .m) ∧ (s.AtRest ∧ s.Ready .e) ∧
      11 < (12 : Byte).toNat ∧ (s.slots[0].state ≠ .free ∧ s.slots[0].owner ≠ some .e) ∧
      (closed.slots[0].owner = some .m ∧ closed.slots[0].state ≠ .loading) ∧
      (busy 6).jobs.length = 6 ∧ ((busy 5).jobs.length < 6 ∧ (busy 5).active ≠ none) ∧
      (s.jobs = [] ∧ s.active = none) ∧
      s.slots[0].cls = some 0 ∧ s.slots[0].buffer = Sample.manifest := by
  refine ⟨Sample.allReady (by decide +kernel), Sample.ready (by decide +kernel), ?_⟩
  decide +kernel

/-- ManCloseRejects: the same slot under a floor of 4, at two attempts, at three beside another live slot
of its class, and at three alone. -/
theorem witness_ManCloseRejects :
    let s (n : Nat) : State := { (Sample.withSlot Sample.loadingSlot).setClass 0
        { Sample.verifying.classes[0] with attempts := n } with
      fuses := { Fuses.unburnt with floors := put Fuses.unburnt.floors 0 (thermometer 4) } }
    let two := (s 3).setSlot 11 Sample.loadingSlot
    (∀ x ∈ [s 2, s 3, two], x.AtRest ∧ x.Ready .m) ∧
      (∀ x ∈ [s 2, s 3, two], x.slots[0].state = .loading ∧ x.slots[0].owner = some .m ∧
        x.slots[0].cls = some 0 ∧ (∀ y : Fin 4, x.ctxs[y] = none) ∧ x.chunkQueue = [] ∧ x.jobs = [] ∧
        x.manifestChecks 0 x.slots[0].buffer = .error ⟨.rollback, none, [3, 4]⟩) ∧
      ¬(s 2).Exhausts (fun j => j = 0) 0 ∧ ¬two.Exhausts (fun j => j = 0) 0 ∧
      (s 3).classes[0].state = .pending ∧ (s 3).classes[0].attempts = 3 ∧
      ∀ j : Fin 12, j ≠ 0 → (s 3).slots[j].live = true → (s 3).slots[j].cls ≠ some 0 := by
  refine ⟨Sample.allReady (by decide +kernel), by decide +kernel, ?_⟩
  unfold State.Exhausts
  decide +kernel

/-- SlotQueryReports: slot 12, a slot with parsed fields and four contexts, and one without. -/
theorem witness_SlotQueryReports :
    let s := Sample.withSlot { Sample.checkingSlot with openCtxs := [0, 1, 2, 3] }
    (s.AtRest ∧ s.Ready .e) ∧ s.mode = .verify ∧ 11 < (12 : Byte).toNat ∧
      s.slots[0].openCtxs.length ≤ 4 ∧
      s.slots[0].parsed = some Sample.parsed ∧ Sample.parsed.label.length = 28 ∧
      s.slots[1].parsed = none ∧ s.slots[1].openCtxs.length ≤ 4 := by
  refine ⟨Sample.ready (by decide +kernel), ?_⟩
  decide +kernel

/-- SlotDropFrees: slot 12, a FREE slot, a VERIFIED one, from its owner and from the other link, a REJECTED
one, a live one at two attempts, one at three beside another live slot of its class, and one at three
alone. -/
theorem witness_SlotDropFrees :
    let s := Sample.withSlot Sample.verifiedSlot
    let r := Sample.withSlot { Sample.loadingSlot with state := .rejected }
    let v (n : Nat) := (Sample.withSlot Sample.checkingSlot).setClass 0
      { Sample.verifying.classes[0] with attempts := n }
    let two := (v 3).setSlot 11 Sample.loadingSlot
    (∀ x ∈ [s, r, v 2, v 3, two], x.AtRest ∧ x.Ready .m) ∧ (s.AtRest ∧ s.Ready .e) ∧
      11 < (12 : Byte).toNat ∧ s.slots[1].state = .free ∧
      (s.slots[0].owner = some .m ∧ s.slots[0].state = .verified) ∧
      (r.slots[0].owner = some .m ∧ r.slots[0].state = .rejected) ∧
      ((v 2).slots[0].owner = some .m ∧ (v 2).slots[0].cls = some 0 ∧ (v 2).classes[0].attempts ≠ 3 ∧
        (v 2).slots[0].state = .checking) ∧
      ((v 3).classes[0].attempts = 3 ∧ (v 3).classes[0].state = .pending ∧
        ∀ j : Fin 12, j ≠ 0 → (v 3).slots[j].live = true → (v 3).slots[j].cls ≠ some 0) ∧
      (two.classes[0].attempts = 3 ∧ two.slots[11].live = true ∧ two.slots[11].cls = some 0) := by
  refine ⟨Sample.allReady (by decide +kernel), Sample.ready (by decide +kernel), ?_⟩
  decide +kernel

/-- SegOpenClaims: the one segment of the sample, in SC0, and in SC3 with the others taken; slot 12,
another link, a LOADING slot, segment 1 of 1, a matched segment, a busy one, and no IDLE context. -/
theorem witness_SegOpenClaims :
    let s := Sample.withSlot Sample.checkingSlot
    let other := Sample.claim 0 0 [] false
    let all : State := { s with ctxs := tabulate fun _ => some { other with slot := 1 } }
    let t := { all with ctxs := put all.ctxs 3 none }
    let busy := s.setCtx 3 (some other)
    let loading := Sample.withSlot Sample.loadingSlot
    let matched := Sample.withSlot { Sample.checkingSlot with segMap := [true] }
    (∀ x ∈ [s, t, all, busy, loading, matched], x.AtRest ∧ x.Ready .m) ∧ (s.AtRest ∧ s.Ready .e) ∧
      s.mode = .verify ∧ 11 < (12 : Byte).toNat ∧
      (s.slots[0].state ≠ .free ∧ s.slots[0].owner ≠ some .e) ∧
      (loading.slots[0].owner = some .m ∧ loading.slots[0].state ≠ .checking ∧
        loading.slots[0].state ≠ .signed) ∧
      (s.slots[0].owner = some .m ∧ s.slots[0].state = .checking ∧
        s.slots[0].parsed = some Sample.parsed) ∧
      (0 < Sample.parsed.segCount ∧ Sample.parsed.segCount ≤ 1) ∧
      matched.slots[0].segMap.getD 0 false = true ∧ s.slots[0].segMap.getD 0 false = false ∧
      busy.ctxs[3] = some other ∧ (other.slot = 0 ∧ other.seg = 0) ∧
      (∀ y : Fin 4, all.ctxs[y] ≠ none) ∧ s.ctxs[0] = none ∧ t.ctxs[3] = none ∧
      (∀ y : Fin 4, y < 3 → t.ctxs[y] ≠ none) ∧
      (∀ y : Fin 4, (all.ctxs[y].map fun c => c.slot) ≠ some 0) := by
  refine ⟨Sample.allReady (by decide +kernel), Sample.ready (by decide +kernel), ?_⟩
  decide +kernel

/-- SegDataQueuesChunk: a stale generation, another link's request, a DRAINING context, no data and
1,025 bytes, an offset of 0, one byte too many, eight chunks queued, seven behind a working core, and an
idle core with data that end exactly at the segment's length. -/
theorem witness_SegDataQueuesChunk :
    let c := Sample.claim 1 0 [0x61] false
    let s := Sample.streaming c
    let drains := Sample.streaming { c with draining := true }
    let busy (n : Nat) : State :=
      { s with chunkQueue := List.replicate n { Sample.chunk [0] with slot := 1 },
               core := some { Sample.chunk [0] with slot := 1 } }
    (∀ x ∈ [s, drains, busy 8, busy 7], x.AtRest ∧ x.Ready .m) ∧ (s.AtRest ∧ s.Ready .e) ∧
      s.mode = .verify ∧ s.ctxs[0] = some c ∧ (2 : Byte) ≠ c.gen ∧ s.slots[0].owner = some .m ∧
      drains.ctxs[0] = some { c with draining := true } ∧
      (1024 < (zeros 1025).length ∧ (zeros 1025).length ≤ 1031) ∧ 0 ≠ c.received ∧
      c.len < 1 + (zeros 3).length ∧ ¬(c.len < 1 + (zeros 2).length) ∧
      8 ≤ (busy 8).chunkQueue.length ∧ ¬(8 ≤ (busy 7).chunkQueue.length) ∧ (busy 7).core ≠ none ∧
      (s.chunkQueue = [] ∧ s.core = none) := by
  refine ⟨Sample.allReady (by decide +kernel), Sample.ready (by decide +kernel), ?_⟩
  decide +kernel

/-- SegCloseDrains: a stale segment, another link's request, a DRAINING context, one byte short,
complete with one chunk pending, and complete with none, on a CHECKING slot and on a SIGNED one with two
segments, the other unmatched, and with one. The digests match by `witness_SegmentMatches`; those of
another segment's bytes differ. -/
theorem witness_SegCloseDrains :
    let s (x : Slot) (c : Claim) := (Sample.withSlot x).setCtx 0 (some c)
    let c (r n : Nat) := Sample.claim r n [0x61, 0x62, 0x63] false
    let x := Sample.checkingSlot
    let signed : Slot := { x with state := .signed }
    let wide : Slot := { signed with
      parsed := some { Sample.parsed with segCount := 2 }, segMap := [false, false] }
    let other := s x { c 3 0 with folded := [0x61, 0x62, 0x64] }
    (∀ y ∈ [s x (c 3 0), s signed (c 3 0), s wide (c 3 0), s x { c 3 1 with draining := true },
        s x (c 2 0), s x (c 3 1), other], y.AtRest ∧ y.Ready .m) ∧
    ((s x (c 3 0)).AtRest ∧ (s x (c 3 0)).Ready .e) ∧
    (∀ y ∈ [x, signed, wide], (s y (c 3 0)).slots[0].owner = some .m ∧
        (s y (c 3 0)).ctxs[0] = some (c 3 0) ∧ (s y (c 3 0)).slots[0].gen = (c 3 0).gen) ∧
    (1 : Nat) ≠ (c 3 0).seg ∧ (c 2 0).received ≠ (c 2 0).len ∧ (c 3 1).received = (c 3 1).len ∧
    0 < (c 3 1).pendingChunks ∧ x.state = .checking ∧
    (signed.parsed = some Sample.parsed ∧
      (signed.segMap.set 0 true).countP id = Sample.parsed.segCount ∧ signed.cls = some 0) ∧
    (wide.segMap.set 0 true).countP id ≠ 2 ∧
    sha256 [0x61, 0x62, 0x64] ≠ slice other.slots[0].buffer (48 + 32 * 0) 32 := by
  refine ⟨Sample.allReady (by decide +kernel), Sample.ready (by decide +kernel), ?_⟩
  decide +kernel

/-- ClassDeclineDeclines: class 8, a REQUIRED class, FNSH VERIFIED, DECLINED and FAILED, FNSH PENDING,
whose decline leaves lines HELD, and with every other line decided, where it settles the part over live
slots of both kinds. -/
theorem witness_ClassDeclineDeclines :
    let s := Sample.verifying
    let last := { (s.setSlot 1 { Sample.loadingSlot with cls := some 6 }).setSlot 3
        Sample.checkingSlot with
      lines := tabulate fun i =>
        if i = 4 then s.lines[i] else { s.lines[i] with state := .locked } }
    let at6 (x : ClassState) : State := s.setClass 6 { s.classes[6] with state := x }
    (s.AtRest ∧ s.Ready .e) ∧ (last.AtRest ∧ last.Ready .e) ∧
      (∀ x, (at6 x).AtRest ∧ (at6 x).Ready .e) ∧ s.mode = .verify ∧ 7 < (8 : Byte).toNat ∧
      s.classes[7].disposition ≠ .optional ∧ (at6 .verified).classes[6].state = .verified ∧
      (at6 .declined).classes[6].state = .declined ∧ (at6 .failed).classes[6].state = .failed ∧
      s.classes[6].disposition = .optional ∧ s.classes[6].state = .pending ∧
      (∃ i : Fin 6, (evaluatedLines (put s.classes 6
        { s.classes[6] with state := .declined }) s.lines)[i].state = .held) ∧
      (∀ i : Fin 6, (evaluatedLines (put s.classes 6
        { s.classes[6] with state := .declined }) last.lines)[i].state ≠ .held) := by
  refine ⟨Sample.ready (by decide +kernel), Sample.ready (by decide +kernel), ?_, ?_⟩
  · intro x
    cases x <;> exact Sample.ready (by decide +kernel)
  · decide +kernel

/-- WindowExtendReloads: outside VERIFY; with extensions used equal to EXT_MAX; and one below it. -/
theorem witness_WindowExtendReloads :
    let s := Sample.verifying
    let spent := { s with window := { s.window with extUsed := 1 } }
    (s.AtRest ∧ s.Ready .e) ∧ (spent.AtRest ∧ spent.Ready .e) ∧ State.reset.mode ≠ .verify ∧
      (spent.mode = .verify ∧ spent.window.extMax ≤ spent.window.extUsed) ∧
      (s.mode = .verify ∧ s.window.extUsed < s.window.extMax) := by
  refine ⟨Sample.ready (by decide +kernel), Sample.ready (by decide +kernel), ?_⟩
  decide +kernel

/-- FloorAdvanceStarts: slot 12, T equal to F, T one above F, a reserved controller, another link's request, a
FREE slot, and a slot without ADVANCE. -/
theorem witness_FloorAdvanceStarts :
    let at3 (n : Nat) : State := { Sample.withSlot Sample.verifiedSlot with
      fuses := { Fuses.unburnt with floors := put Fuses.unburnt.floors 0 (thermometer n) } }
    let F (n : Nat) : Nat := (List.range 63).countP fun f => (at3 n).fuses.floors[0].getLsbD f
    let T (n : Nat) : Nat := min Sample.parsed.epoch (F n + Sample.policy.maxStep.toNat)
    let still := Sample.withSlot { Sample.verifiedSlot with
      parsed := some { Sample.parsed with flags := 0 } }
    let kept : State := { at3 3 with reserved := true }
    (∀ x ∈ [at3 3, at3 2, still, kept], x.AtRest ∧ x.Ready .m) ∧
      ((at3 3).AtRest ∧ (at3 3).Ready .e) ∧ 11 < (12 : Byte).toNat ∧
      (at3 3).slots[0].state = .verified ∧ (at3 3).slots[0].cls = some 0 ∧
      (at3 3).slots[0].owner = some .m ∧ ((at3 3).slots[1].state = .free ∧ (at3 3).slots[1].cls = none) ∧
      (at3 3).slots[0].parsed = some Sample.parsed ∧ Sample.parsed.flags.getLsbD 0 = true ∧
      ({ Sample.parsed with flags := 0 } : Parsed).flags.getLsbD 0 = false ∧
      (at3 3).inForce = some Sample.policy ∧ T 3 ≤ F 3 ∧ F 2 < T 2 ∧ kept.reserved = true := by
  refine ⟨Sample.allReady (by decide +kernel), Sample.ready (by decide +kernel), ?_⟩
  decide +kernel

/-- KeyRevokeReserves: root 1 as target of root 0, behind five jobs and on an idle unit; key 10, an
EMPTY key, signers 1 and 2 for root 1, a busy controller, and six jobs waiting. -/
theorem witness_KeyRevokeReserves :
    let s := Sample.verifying
    let busy (n : Nat) : State := { s with jobs := List.replicate n (.revoke .m 4 0 (zeros 64)),
                                           active := some (.revoke .m 4 0 [] [] []) }
    let kept : State := { s with reserved := true }
    (∀ x ∈ [s, busy 5, busy 6, kept], x.AtRest ∧ x.Ready .e) ∧
      (zeros 64).length = 64 ∧ 9 < (10 : Byte).toNat ∧ s.keyState 9 ≠ .active ∧
      s.keyState 1 = .active ∧ s.fuses.revoke.getLsbD (0 : Fin 2) = false ∧
      (1 : Fin 10).val ≠ (0 : Fin 2).val ∧ (1 : Fin 10).val = (1 : Fin 2).val ∧
      (∀ r : Fin 2, (2 : Byte) ≠ byteOf r) ∧
      s.fuseOp = none ∧ s.reserved = false ∧ kept.reserved = true ∧ 6 ≤ (busy 6).jobs.length ∧
      ((busy 5).jobs.length < 6 ∧ (busy 5).active ≠ none) ∧ (s.jobs = [] ∧ s.active = none) := by
  refine ⟨Sample.allReady (by decide +kernel), ?_⟩
  decide +kernel

/-- An unclosed part in PROVISION, for KeyEnrollStarts, PolicySetStores and ProvisionCloseStarts. -/
def Sample.provisioning : State := { State.reset with mode := .provision, selfTest := false }

/-- KeyEnrollStarts: Link E, indices 1 and 10, an ACTIVE and a REVOKED entry, a busy controller, and the
last entry EMPTY. -/
theorem witness_KeyEnrollStarts :
    let s := Sample.provisioning
    let active : State := { s with fuses := { s.fuses with
      entries := put s.fuses.entries 7 (BitVec.twoPow 585 584) } }
    let revoked : State := { s with fuses := { s.fuses with revoke := BitVec.twoPow 10 9 } }
    let busy : State := { s with
      fuseOp := some { kind := .enroll 0, burnList := [584], position := 0, link := .m } }
    (∀ x ∈ [s, active, revoked, busy], x.AtRest ∧ x.Ready .m) ∧ (s.AtRest ∧ s.Ready .e) ∧
      s.mode = .provision ∧ (zeros 64).length = 64 ∧ (zeros 8).length = 8 ∧
      (1 : Byte).toNat < 2 ∧ 9 < (10 : Byte).toNat ∧ active.fuses.entries[7].getLsbD 584 = true ∧
      revoked.fuses.revoke.getLsbD ((7 : Fin 8).val + 2) = true ∧ busy.fuseOp ≠ none ∧
      s.fuses.revoke.getLsbD ((7 : Fin 8).val + 2) = false ∧ s.fuses.entries[7].getLsbD 584 = false ∧
      s.fuseOp = none ∧ s.reserved = false := by
  refine ⟨Sample.allReady (by decide +kernel), Sample.ready (by decide +kernel), ?_⟩
  decide +kernel

/-- PolicySetStores: Link E, class 7's byte at 3 with the others at 2, every byte at 2, and a busy
controller. -/
theorem witness_PolicySetStores :
    let s := Sample.provisioning
    let b := List.replicate 7 (2 : Byte) ++ [3] ++ zeros 25
    let good := List.replicate 8 (2 : Byte) ++ zeros 25
    let busy : State := { s with
      fuseOp := some { kind := .close, burnList := [280], position := 0, link := .m } }
    (s.AtRest ∧ s.Ready .m) ∧ (s.AtRest ∧ s.Ready .e) ∧ (busy.AtRest ∧ busy.Ready .m) ∧
      b.length = 33 ∧ good.length = 33 ∧ 2 < (byteAt b (7 : Fin 8)).toNat ∧ busy.fuseOp ≠ none ∧
      (∀ d : Fin 8, d < 7 → (byteAt b d).toNat ≤ 2) ∧ (∀ c : Fin 8, (byteAt good c).toNat ≤ 2) := by
  refine ⟨Sample.ready (by decide +kernel), Sample.ready (by decide +kernel),
    Sample.ready (by decide +kernel), ?_⟩
  decide +kernel

/-- PolicyGetReports: STARTUP, PROVISION on both links, and VERIFY with its policy. -/
theorem witness_PolicyGetReports :
    (State.reset.AtRest ∧ State.reset.Ready .m) ∧ State.reset.mode = .startup ∧
      (Sample.provisioning.AtRest ∧ Sample.provisioning.Ready .e) ∧
      Sample.provisioning.mode = .provision ∧
      (Sample.verifying.AtRest ∧ Sample.verifying.Ready .m) ∧
      Sample.verifying.inForce = some Sample.policy :=
  ⟨Sample.ready (by decide +kernel), rfl, Sample.ready (by decide +kernel), rfl,
   Sample.ready (by decide +kernel), rfl⟩

/-- ProvisionCloseStarts: a staging that fails each condition alone, and a valid one, on an idle and on a
busy controller; Link E is ready by `witness_KeyEnrollStarts`. -/
theorem witness_ProvisionCloseStarts :
    let p := Sample.policy
    let s (p : Policy) : State := { Sample.provisioning with staging := p }
    let masked (p : Policy) (i : Fin 6) (c : Fin 8) : Bool :=
      p.need[i].getLsbD c || p.soft[i].getLsbD c
    let stray (p : Policy) (i : Fin 6) : Bool := decide (∃ c : Fin 8, masked p i c ∧ p.dispositions[c] = .unused)
    let lost (p : Policy) (c : Fin 8) : Bool := decide (p.dispositions[c] ≠ .unused ∧ ∀ i, masked p i c = false)
    let shared (p : Policy) (i : Fin 6) : Bool :=
      decide (∃ c : Fin 8, p.need[i].getLsbD c = true ∧ p.soft[i].getLsbD c = true)
    let p2 : Policy := { p with dispositions := put p.dispositions 7 .unused }
    let p3 : Policy := { p with need := put p.need 5 0 }
    let p4 : Policy := { p with soft := put p.soft 5 0x80 }
    let busy : State := { s p with
      fuseOp := some { kind := .close, burnList := [280], position := 0, link := .m } }
    (∀ q, q = p ∨ q = p2 → ((s q).AtRest ∧ (s q).Ready .m)) ∧
      ((busy.AtRest ∧ busy.Ready .m) ∧ busy.fuseOp ≠ none) ∧ (Policy.defaults.need[0] = 0) ∧
      (p2.need[0] ≠ 0 ∧ stray p2 5 ∧ ∀ j : Fin 6, j < 5 → stray p2 j = false) ∧
      ((∀ i, stray p3 i = false) ∧ lost p3 7 ∧ ∀ d : Fin 8, d < 7 → lost p3 d = false) ∧
      ((∀ i, stray p4 i = false) ∧ (∀ c, lost p4 c = false) ∧ shared p4 5 ∧
        ∀ j : Fin 6, j < 5 → shared p4 j = false) ∧
      (p.need[0] ≠ 0 ∧ (∀ i, stray p i = false) ∧ (∀ c, lost p c = false) ∧ ∀ i, shared p i = false) := by
  refine ⟨?_, ⟨Sample.ready (by decide +kernel), by decide +kernel⟩, ?_⟩
  · rintro q (rfl | rfl) <;> exact Sample.ready (by decide +kernel)
  · decide +kernel

/-- ChunkFoldsOrIsDiscarded: a FILLING claim, a DRAINING one with two chunks pending, no claim, and a
claim of another generation and of another slot. -/
theorem witness_ChunkFoldsOrIsDiscarded :
    let at' (c : Option Claim) : State :=
      { (Sample.withSlot Sample.checkingSlot).setCtx 0 c with core := some (Sample.chunk [0x62]) }
    (∀ c, c = some (Sample.claim 2 1 [0x61] false) ∨ c = some (Sample.claim 3 2 [0x61] true) ∨
        c = none ∨ c = some { Sample.claim 0 0 [] false with gen := 2 } ∨
        c = some { Sample.claim 0 0 [] false with slot := 1 } →
      (at' c).AtRest ∧ (at' c).core = some (Sample.chunk [0x62]) ∧ (at' c).ctxs[0] = c) ∧
    (Sample.claim 2 1 [0x61] false).draining = false ∧
    1 < (Sample.claim 3 2 [0x61] true).pendingChunks ∧
    (Sample.claim 2 1 [0x61] false).slot = (Sample.chunk [0x62]).slot ∧
    (Sample.claim 2 1 [0x61] false).gen = (Sample.chunk [0x62]).gen := by
  refine ⟨?_, by decide +kernel⟩
  rintro c (rfl | rfl | rfl | rfl | rfl) <;>
    exact ⟨Sample.rest (by decide +kernel), by decide +kernel⟩

/-- SegmentMatches: the last chunk of "abc" on a CHECKING slot, on a SIGNED one with a second segment
unmatched, and on a SIGNED one with no other. -/
theorem witness_SegmentMatches :
    let x := Sample.checkingSlot
    let signed : Slot := { x with state := .signed }
    let wide : Slot := { signed with
      parsed := some { Sample.parsed with segCount := 2 }, segMap := [false, false] }
    let s (x : Slot) : State :=
      { (Sample.withSlot x).setCtx 0 (some (Sample.claim 3 1 [0x61] true)) with
        core := some (Sample.chunk [0x62, 0x63]) }
    (∀ y, y = x ∨ y = signed ∨ y = wide → (s y).AtRest ∧
      (s y).ctxs[0] = some (Sample.claim 3 1 [0x61] true) ∧ (s y).slots[0].gen = 1 ∧
      slice (s y).slots[0].buffer (48 + 32 * 0) 32 = slice Sample.manifest 48 32) ∧
    sha256 ([0x61] ++ [0x62, 0x63]) = slice Sample.manifest 48 32 ∧ x.state = .checking ∧
    (signed.parsed = some Sample.parsed ∧ signed.cls = some 0 ∧
      (signed.segMap.set 0 true).countP id = Sample.parsed.segCount) ∧
    (wide.segMap.set 0 true).countP id ≠ 2 := by
  refine ⟨?_, by decide +kernel⟩
  rintro y (rfl | rfl | rfl) <;> exact ⟨Sample.rest (by decide +kernel), by decide +kernel⟩

/-- SegmentMismatches: the last chunk of "abd", at two attempts, and at three, where it settles the part
over a live slot of another class. -/
theorem witness_SegmentMismatches :
    let s (n : Nat) : State := { ((Sample.streaming (Sample.claim 3 1 [0x61] true)).setClass 0
        { Sample.verifying.classes[0] with attempts := n }).setSlot 2
        { Sample.loadingSlot with cls := some 5 } with
      core := some (Sample.chunk [0x62, 0x64])
      lines := tabulate fun i =>
        if i = 0 then Sample.verifying.lines[i] else { Sample.verifying.lines[i] with state := .locked } }
    (∀ x ∈ [s 2, s 3], x.AtRest) ∧
      (∀ x ∈ [s 2, s 3], x.ctxs[0] = some (Sample.claim 3 1 [0x61] true) ∧
        x.slots[0].state = .checking ∧ x.slots[0].gen = 1 ∧ x.slots[0].cls = some 0 ∧
        sha256 ([0x61] ++ [0x62, 0x64]) ≠ slice x.slots[0].buffer (48 + 32 * 0) 32) ∧
      ¬(s 2).Exhausts (fun j => j = 0) 0 ∧ (s 3).Exhausts (fun j => j = 0) 0 := by
  refine ⟨Sample.allRest (by decide +kernel), by decide +kernel, ?_⟩
  unfold State.Exhausts
  decide +kernel

/-- ManifestJobReports: a FREE slot, another generation, a good signature over a map with a segment
unmatched, and a bad one at two attempts and, alone in its class, at three; with no job waiting, with a
manifest job of another slot, and with a revoke job. -/
theorem witness_ManifestJobReports :
    let s (i : Fin 12) (g : Byte) (sig : List Byte) (jobs : List Job) : State :=
      { ((Sample.withSlot Sample.checkingSlot).setSlot 2 Sample.checkingSlot).setClass 0
          { Sample.verifying.classes[0] with attempts := 2 } with
        active := some (.manifest i g Sample.message Sample.publicKey sig), jobs := jobs }
    let own : List Job := [.manifest 2 1, .manifest 0 1]
    let notice : List Job := [.revoke .e 4 1 (zeros 64)]
    let alone : State := ((s 0 1 [] (.manifest 2 1 :: notice)).setSlot 2
      { Sample.checkingSlot with cls := some 5 }).setClass 0
      { Sample.verifying.classes[0] with attempts := 3 }
    (∀ i g sig jobs, (i = 1 ∧ g = 0) ∨ (i = 0 ∧ g = 2) ∨ (i = 0 ∧ g = 1) →
      sig = Sample.signature ∨ sig = zeros 64 → jobs = [] ∨ jobs = own ∨ jobs = notice →
      (s i g sig jobs).AtRest) ∧
    (alone.AtRest ∧ alone.JobsCanStart ∧ ∃ next, alone.StartsNext (some next) notice) ∧
    (∀ sig, (s 0 1 sig []).StartsNext none []) ∧
    (∃ next, (s 0 1 [] own).StartsNext (some next) [.manifest 0 1]) ∧
    (∃ next, (s 0 1 [] notice).StartsNext (some next) []) ∧
    (s 1 0 [] []).slots[1].live = false ∧ (s 0 2 [] []).slots[0].gen ≠ 2 ∧
    (s 0 1 [] []).slots[0].state = .checking ∧ (s 0 1 [] []).slots[0].gen = 1 ∧
    (s 0 1 [] []).slots[0].parsed = some Sample.parsed ∧ (s 0 1 [] []).slots[0].cls = some 0 ∧
    (s 0 1 [] []).classes[0].attempts < 3 ∧ alone.Exhausts (fun j => j = 0) 0 ∧ own.head? ≠ some (.manifest 0 1) ∧
    (s 0 1 [] []).slots[0].segMap.countP id ≠ Sample.parsed.segCount ∧
    signatureGood (sha256 Sample.message) Sample.publicKey (zeros 64) = false := by
  refine ⟨?rests, ⟨Sample.rest (by decide +kernel), Sample.jobsCanStart (by decide +kernel),
      _, Or.inr (Or.inl ⟨2, 1, Sample.parsed, rfl, by decide +kernel, by decide +kernel, rfl⟩)⟩,
    fun _ => Or.inl ⟨rfl, rfl, rfl⟩,
    ⟨_, Or.inr (Or.inl ⟨2, 1, Sample.parsed, rfl, by decide +kernel, by decide +kernel, rfl⟩)⟩,
    ⟨_, Or.inr (Or.inr ⟨.e, 4, 1, zeros 64, rfl, rfl⟩)⟩, ?_⟩
  case rests =>
    rintro i g sig jobs (⟨rfl, rfl⟩ | ⟨rfl, rfl⟩ | ⟨rfl, rfl⟩) (rfl | rfl) (rfl | rfl | rfl) <;>
      exact Sample.rest (by decide +kernel)
  · unfold State.Exhausts
    decide +kernel

/-- SlotVerifiedWinsClass: slot 0 wins, and slot 1, CHECKING for the same class, loses with its job; lines
stay HELD; and, with every other line LOCKED and ENG_EN in need of MAIN alone, the part settles over slot 2
of another class. The vector's signature is good by `test_ecdsa_vector`. -/
theorem witness_SlotVerifiedWinsClass :
    let s := { ((Sample.withSlot { Sample.checkingSlot with segMap := [true] }).setSlot 1
        Sample.checkingSlot).setSlot 2 { Sample.checkingSlot with cls := some 5 } with
      active := some (.manifest 0 1 Sample.message Sample.publicKey Sample.signature)
      jobs := [.manifest 1 1, .manifest 2 1] }
    let last := { s with
      lines := tabulate fun i =>
        if i = 0 then { s.lines[i] with need := 1, soft := 0 } else { s.lines[i] with state := .locked } }
    s.JobsCanStart ∧ s.slots[0].state = .checking ∧ s.slots[0].gen = 1 ∧
      s.slots[0].parsed = some Sample.parsed ∧ s.slots[0].cls = some 0 ∧
      s.slots[0].segMap.countP id = Sample.parsed.segCount ∧
      (s.slots[1].live = true ∧ s.slots[1].cls = some 0) ∧
      (last.mode = .verify ∧ last.slots[2].live = true ∧
        ∀ i : Fin 6, (evaluatedLines (put last.classes 0
          { last.classes[0] with state := .verified }) last.lines)[i].state ≠ .held) := by
  refine ⟨Sample.jobsCanStart (by decide +kernel), ?_⟩
  decide +kernel

/-- KeyRevokedAtStart: two jobs behind a discarded one, both of the revoked root 0, the first on the third
attempt of its class. That class is exhausted, and the part settles with the second slot rejected
KEY_REVOKED, its class closed as well, and a third slot SETTLED_OUT (R62, R106, R118). -/
theorem witness_KeyRevokedAtStart :
    let s : State := { ((((Sample.withSlot Sample.checkingSlot).setSlot 1
        { Sample.checkingSlot with cls := some 1 }).setSlot 2
        { Sample.loadingSlot with cls := some 5 }).setClass 0
        { Sample.verifying.classes[0] with attempts := 3 }).setClass 1
        { Sample.verifying.classes[1] with attempts := 3 } with
      active := some (.manifest 3 0 [] [] []), jobs := [.manifest 0 1, .manifest 1 1]
      fuses := { Fuses.unburnt with revoke := 1 }
      lines := tabulate fun i => if i = 0 then Sample.verifying.lines[i]
        else { Sample.verifying.lines[i] with state := .locked } }
    (s.slots[3].live = false ∧ s.EndAtStart s.jobs [0, 1] []) ∧
    Sample.then (exec .manifestJobEnd s) (fun t =>
      t.slots[1].reason == some .keyRevoked && t.classes[1].state == .failed &&
        t.slots[2].reason == some .settledOut && t.verdict == .blocked) = true := by
  exact ⟨⟨by decide +kernel, Sample.endAtStart (by decide +kernel)⟩, by decide +kernel⟩

/-- Slot 1 under the revoked root 0, its job before that of slot 2 under root 1, behind a job in progress. -/
def Sample.behind (matched : Bool) (a : ActiveJob) (jobs : List Job) : State :=
  { (((Sample.withSlot { Sample.checkingSlot with segMap := [matched] }).setSlot 1
      { Sample.checkingSlot with cls := some 1 }).setSlot 2
      { Sample.checkingSlot with cls := some 5, parsed := some { Sample.parsed with key := 1 } }).setSlot 3
      Sample.checkingSlot with
    active := some a, jobs := jobs ++ [.manifest 1 1, .manifest 2 1]
    fuses := { Fuses.unburnt with revoke := 1 } }

def Sample.jobOf (gen : Byte) (signature : List Byte) : ActiveJob :=
  .manifest 0 gen Sample.message Sample.publicKey signature

/-- A bad signature, a good one over a map with a segment unmatched, another generation, and a revoke job. -/
def Sample.behinds : List State :=
  [Sample.behind false (Sample.jobOf 1 (zeros 64)) [], Sample.behind false (Sample.jobOf 1 Sample.signature) [],
    Sample.behind false (Sample.jobOf 2 []) [],
    Sample.behind false (.revoke .e 9 1 Sample.message Sample.publicKey (zeros 64)) []]

/-- A good signature over a full map, slot 3 of the same class waiting before the others. -/
def Sample.behindWin : State := Sample.behind true (Sample.jobOf 1 Sample.signature) [.manifest 3 1]

/-- KeyRevokedAtStart: behind each job that can end, slot 1's job ends at its start, and slot 2's runs. -/
theorem witness_KeyRevokedAtStart_later :
    (∀ x ∈ Sample.behinds, x.EndAtStart x.jobs [1] [.manifest 2 1]) ∧
    Sample.behindWin.EndAtStart (Sample.behindWin.jobs.filter fun j =>
      match j with
      | .manifest n g => !((n != 0 && Sample.behindWin.slots[n].live &&
          Sample.behindWin.slots[n].cls == some 0) && g == Sample.behindWin.slots[n].gen)
      | .revoke .. => true) [1] [.manifest 2 1] ∧
    (∀ x ∈ Sample.behindWin :: Sample.behinds, x.slots[0].state = .checking ∧ x.slots[0].gen = 1 ∧
      x.slots[0].parsed = some Sample.parsed ∧ x.slots[0].cls = some 0 ∧ Job.manifest 0 1 ∉ x.jobs) ∧
    Sample.behindWin.slots[0].segMap.countP id = Sample.parsed.segCount ∧
    (∀ x ∈ Sample.behinds, x.slots[0].segMap.countP id ≠ Sample.parsed.segCount) ∧
    signatureGood (sha256 Sample.message) Sample.publicKey (zeros 64) = false := by
  refine ⟨fun x m => ?_, Sample.endAtStart (by decide +kernel), by decide +kernel⟩
  simp only [Sample.behinds, List.mem_cons, List.not_mem_nil, or_false] at m
  rcases m with rfl | rfl | rfl | rfl <;> exact Sample.endAtStart (by decide +kernel)

/-- Behind a bad signature slot 1 is rejected KEY_REVOKED, and slot 2's job is in progress (R62). -/
theorem test_later_job_starts :
    Sample.then (exec .manifestJobEnd (Sample.behind false (Sample.jobOf 1 (zeros 64)) [])) (fun t =>
      t.slots[1].reason == some .keyRevoked && t.active.any fun a =>
        match a with
        | .manifest n _ _ _ _ => n == 2
        | _ => false) = true := by
  decide +kernel

/-- RevokeJobEnds: a good and a bad signature, with no job waiting and with a manifest job. -/
theorem witness_RevokeJobEnds :
    let s (sig : List Byte) (jobs : List Job) : State := { Sample.withSlot Sample.checkingSlot with
      reserved := true, revoking := some 9, jobs := jobs
      active := some (.revoke .e 9 1 Sample.message Sample.publicKey sig) }
    (∀ sig jobs, sig = Sample.signature ∨ sig = zeros 64 → jobs = [] ∨ jobs = [.manifest 0 1] →
      (s sig jobs).AtRest) ∧
    (∀ sig, (s sig []).StartsNext none []) ∧
    (∃ next, (s [] [.manifest 0 1]).StartsNext (some next) []) ∧
    signatureGood (sha256 Sample.message) Sample.publicKey (zeros 64) = false := by
  refine ⟨?_, fun _ => Or.inl ⟨rfl, rfl, rfl⟩,
    ⟨_, Or.inr (Or.inl ⟨0, 1, Sample.parsed, rfl, by decide +kernel, by decide +kernel, rfl⟩)⟩,
    by decide +kernel⟩
  rintro sig jobs (rfl | rfl) (rfl | rfl) <;> exact Sample.rest (by decide +kernel)

/-- FloorBurnCompletes: fuse 1 of two, good; fuse 63, the last, good and unburnt; and fuse 62 with 63
stray. -/
theorem witness_FloorBurnCompletes :
    let s (list : List Nat) (n f : Nat) : State := { Sample.verifying with
      fuses := { Fuses.unburnt with floors := put Fuses.unburnt.floors 7 (thermometer (f - 1)) }
      fuseOp := some { kind := .floor 0 7 63, burnList := list, position := n, link := .m } }
    (∀ x ∈ [s [1, 2] 0 1, s [62, 63] 1 63, s [62, 63] 0 62], x.AtRest) ∧
    ([1, 2][0]? = some 1 ∧ [62, 63][1]? = some 63 ∧ [62, 63][0]? = some 62) ∧
    RowAfter (s [1, 2] 0 1).fuses.floors[7] (thermometer 1) 1 1 true [] ∧
    RowAfter (s [62, 63] 1 63).fuses.floors[7] (thermometer 63) 1 63 true [] ∧
    RowAfter (s [62, 63] 1 63).fuses.floors[7] (thermometer 62) 1 63 false [] ∧
    RowAfter (s [62, 63] 0 62).fuses.floors[7] (thermometer 63) 1 62 true [63] ∧
    (∀ k, k < 63 → (thermometer 1).getLsbD k = decide (k < 1)) ∧
    (∀ k, k < 63 → (thermometer 63).getLsbD k = decide (k < 63)) ∧
    (thermometer 62).getLsbD 62 ≠ decide (62 < 63) ∧
    (thermometer 63).getLsbD 62 ≠ decide (62 < 62) := by
  refine ⟨Sample.allRest (by decide +kernel), ?_⟩
  unfold RowAfter
  decide +kernel

/-- RevocationTakesEffect: key 0 with a CHECKING slot that uses it, a VERIFIED slot, and two live ones that
are not bound to it, LOADING and SIGNED under key 1; its fuse burnt
alone, burnt with fuse 9 stray, and unburnt. -/
theorem witness_RevocationTakesEffect :
    let s := { (((Sample.withSlot Sample.checkingSlot).setSlot 1 Sample.verifiedSlot).setSlot 2
        { Sample.loadingSlot with cls := some 5 }).setSlot 3
        { Sample.checkingSlot with
          state := .signed, cls := some 6, parsed := some { Sample.parsed with key := 1 } } with
      reserved := true, revoking := some 0
      fuseOp := some { kind := .revoke 0 0, burnList := [(0 : Fin 10).val], position := 0, link := .e } }
    s.AtRest ∧ s.slots[0].state = .checking ∧ s.slots[0].parsed = some Sample.parsed ∧
      Sample.parsed.key = 0 ∧ s.slots[1].live = false ∧ s.slots[1].state = .verified ∧
      s.slots[2].live = true ∧ (s.slots[3].live = true ∧ { Sample.parsed with key := 1 }.key ≠ 0) ∧
      RowAfter s.fuses.revoke 1 0 0 true [] ∧ (1 : BitVec 10) = 0 ||| BitVec.twoPow 10 (0 : Fin 10) ∧
      RowAfter s.fuses.revoke 0x201 0 0 true [9] ∧
      (0x201 : BitVec 10) ≠ 0 ||| BitVec.twoPow 10 (0 : Fin 10) ∧
      RowAfter s.fuses.revoke 0 0 0 false [] ∧
      (0x201 : BitVec 10).getLsbD 0 = true ∧ (0 : BitVec 10).getLsbD 0 = false ∧
      s.faults[1].code = .empty := by
  refine ⟨Sample.rest (by decide +kernel), ?_⟩
  unfold RowAfter
  decide +kernel

set_option maxRecDepth 10000 in
/-- EnrolmentAndCloseEnd: an enrolment of fuses 3 and 584, the first burn good, the first with its fuse
unburnt, and the last good; a close of fuses 0 and 280, the same, and the last with fuse 279 stray. -/
theorem witness_EnrolmentAndCloseEnd :
    let enrol (n : Nat) (row : BitVec 585) : State := { Sample.provisioning with
      fuses := { Fuses.unburnt with entries := put Fuses.unburnt.entries 7 row }
      fuseOp := some { kind := .enroll 7, burnList := [3, 584], position := n, link := .m } }
    let close (n : Nat) (row : BitVec 281) : State := { Sample.provisioning with
      fuses := { Fuses.unburnt with closing := row }
      fuseOp := some { kind := .close, burnList := [0, 280], position := n, link := .m } }
    let done : BitVec 585 := 8 ||| BitVec.twoPow 585 584
    let shut : BitVec 281 := 1 ||| BitVec.twoPow 281 280
    (∀ x ∈ [enrol 0 0, enrol 1 8, close 0 0, close 1 1], x.AtRest) ∧
    (RowAfter 0 (8 : BitVec 585) 0 3 true [] ∧ ∀ k, k < 585 → ¬FuseWrong (8 : BitVec 585) [3, 584] 0 584 k) ∧
    (RowAfter 0 (0 : BitVec 585) 0 3 false [] ∧ FuseWrong (0 : BitVec 585) [3, 584] 0 584 3 ∧
      ∀ m, m < 3 → ¬FuseWrong (0 : BitVec 585) [3, 584] 0 584 m) ∧
    (RowAfter 8 done 0 584 true [] ∧ (∀ k, k < 585 → ¬FuseWrong done [3, 584] 1 584 k) ∧
      584 ∈ [3, 584] ∧ (enrol 1 8).fuses.revoke.getLsbD ((7 : Fin 8).val + 2) = false) ∧
    (RowAfter 0 (1 : BitVec 281) 0 0 true [] ∧ ∀ k, k < 281 → ¬FuseWrong (1 : BitVec 281) [0, 280] 0 280 k) ∧
    (RowAfter 0 (0 : BitVec 281) 0 0 false [] ∧ FuseWrong (0 : BitVec 281) [0, 280] 0 280 0 ∧
      (0 : BitVec 281).getLsbD 280 = false) ∧
    (RowAfter 1 shut 0 280 true [] ∧ ∀ k, k < 281 → ¬FuseWrong shut [0, 280] 1 280 k) ∧
    (RowAfter 1 (shut ||| BitVec.twoPow 281 279) 0 280 true [279] ∧
      FuseWrong (shut ||| BitVec.twoPow 281 279) [0, 280] 1 280 279 ∧
      (shut ||| BitVec.twoPow 281 279).getLsbD 280 = true) := by
  refine ⟨Sample.allRest (by decide +kernel), ?_, ?_, ?_, ?_, ?_, ?_, ?_⟩ <;>
    unfold RowAfter FuseWrong <;> decide +kernel

/-- SelfTestSteps: a root byte changed, a gap in the last floor row, a block without its CRC, and the
part that passes, unclosed and closed. -/
theorem witness_SelfTestSteps :
    let table (s : State) : List Byte := s.rom.roots[0].key.toList ++ s.rom.roots[0].label.toList ++
      s.rom.roots[1].key.toList ++ s.rom.roots[1].label.toList
    let changed : Rom := { Rom.blank with
      roots := put Rom.blank.roots 1 { Rom.blank.roots[1] with label := tabulate fun _ => 1 } }
    let gap : State := { State.reset with
      fuses := { Fuses.unburnt with floors := put Fuses.unburnt.floors 7 2 } }
    let torn : State := { State.reset with
      fuses := { Fuses.unburnt with closing := BitVec.twoPow 281 280 ||| 1 } }
    let closed : State := { State.reset with fuses := Sample.closedFuses }
    sha256 (table { State.reset with rom := changed }) ≠ changed.reference.toList ∧
    (gap.fuses.floors[7].getLsbD 1 = true ∧ gap.fuses.floors[7].getLsbD 0 = false ∧
      ∀ d : Fin 8, d < 7 → gap.fuses.floors[d] = 0) ∧
    (torn.fuses.closing.getLsbD 280 = true ∧
      (crc16 (torn.policyBlock.take 33)).toNat ≠ leNat (slice torn.policyBlock 33 2)) ∧
    State.reset.selfTestFault = none ∧
    (closed.fuses.closing.getLsbD 280 = true ∧ closed.selfTestFault = none) := by decide +kernel

theorem witness_SelfTestFailsOrProvisions :
    let s := { State.reset with
      fuses := { Fuses.unburnt with floors := put Fuses.unburnt.floors 7 2 } }
    s.AtRest ∧ s.selfTest = true ∧ s.selfTestFault ≠ none ∧
      State.reset.AtRest ∧ State.reset.selfTest = true ∧ State.reset.selfTestFault = none ∧
      State.reset.fuses.closing.getLsbD 280 = false :=
  ⟨Sample.rest (by decide +kernel), rfl, by decide +kernel, Sample.rest (by decide +kernel), rfl,
   by decide +kernel, by decide +kernel⟩

/-- ClosedPartStarts: a count equal to MAX_RETRY, one above it, and a policy in which every line is
DISABLED. -/
theorem witness_ClosedPartStarts :
    let s (n : Nat) : State := { State.reset with fuses := Sample.closedFuses, failedCount := n }
    let p := policyOfBytes ((s 0).policyBlock.take 33)
    let bare : Policy := { Sample.policy with need := tabulate fun _ => 0, soft := tabulate fun _ => 0 }
    let idle : State := { State.reset with fuses := { Fuses.unburnt with
      closing := BitVec.ofNat 281 (leNat (blockBytes bare)) ||| BitVec.twoPow 281 280 } }
    let q := policyOfBytes (idle.policyBlock.take 33)
    (∀ x ∈ [s 3, s 4, idle], x.AtRest) ∧ (∀ x ∈ [s 3, s 4, idle], x.selfTest = true ∧
      x.selfTestFault = none ∧ x.fuses.closing.getLsbD 280 = true) ∧
      (s 3).failedCount ≤ p.maxRetry.toNat ∧ (∃ i : Fin 6, p.need[i] ≠ 0 ∨ p.soft[i] ≠ 0) ∧
      p.maxRetry.toNat < (s 4).failedCount ∧
      (idle.failedCount ≤ q.maxRetry.toNat ∧ (∀ i : Fin 6, q.need[i] = 0 ∧ q.soft[i] = 0) ∧
        ∀ i : Fin 12, idle.slots[i].live = false) := by
  refine ⟨Sample.allRest (by decide +kernel), ?_⟩
  decide +kernel

/-- TimeBaseAdvances: a tick due at a count that falls to 0, to R div 4 and above it, one that is not
due, a stopped timer, a clock at its last value, and a microsecond with the expiry tick due. -/
theorem witness_TimeBaseAdvances :
    let s := Sample.due
    (∀ x ∈ [s 1, s 38, s 149, s 0, Sample.verifying, State.reset,
        { State.reset with bootClock := 0xFFFFFFFFFFFF }], x.AtRest) ∧
      ((s 1).window.running = true ∧ (s 1).window.toTick = some 0) ∧
      (s 38).window.count - 1 = (s 38).window.reload / 4 ∧
      (s 149).window.count - 1 ≠ (s 149).window.reload / 4 ∧
      Sample.verifying.window.toTick ≠ some 0 ∧ State.reset.window.running = false ∧
      (0xFFFFFFFFFFFF : BitVec 48).toNat + 1 = 2 ^ 48 ∧ State.reset.supplyLow = false := by
  refine ⟨Sample.allRest (by decide +kernel), ?_⟩
  decide +kernel

/-- ExpirySettles: a live slot, a VERIFIED one, a HELD and a RELEASED line, and first-fault records
full but for the last. -/
theorem witness_ExpirySettles :
    let s := { (Sample.withSlot Sample.checkingSlot).setSlot 1 Sample.verifiedSlot with
      window := (Sample.due 0).window
      lines := put Sample.verifying.lines 0 { Sample.verifying.lines[0] with state := .released }
      faults := put (tabulate fun _ => { FaultRecord.blank with code := .rollback }) 3
        FaultRecord.blank }
    s.mode = .verify ∧ s.window.running = true ∧ s.window.count = 0 ∧ s.window.toTick = some 0 ∧
      s.slots[0].live = true ∧
      s.slots[1].live = false ∧ s.lines[0].state = .released ∧ s.lines[5].state = .held ∧
      s.faults[3].code = .empty ∧ (∀ m : Fin 4, m ≠ 0 → m < 3 → s.faults[m].code ≠ .empty) := by
  decide +kernel

/-- ColdResetClears: no operation, and a running one with a request window open. -/
theorem witness_ColdResetClears :
    let s : State := { Sample.verifying with
      fuseOp := some { kind := .floor 0 0 1, burnList := [1], position := 0, link := .m }
      linkM := { LinkState.fresh with rx := .assembling [0xA5] }, spi := .request }
    Sample.verifying.fuseOp = none ∧ s.fuseOp.isSome = true ∧ s.spi ≠ .shut :=
  ⟨rfl, rfl, by decide⟩

/-- ResetNFallWarmResets: a count of 255, the verdict PRINT_READY, and a running burn. -/
theorem witness_ResetNFallWarmResets :
    let s (v : Verdict) (op : Option FuseOp) : State :=
      { Sample.verifying with failedCount := 255, verdict := v, fuseOp := op }
    let op : FuseOp := { kind := .floor 0 0 1, burnList := [1], position := 0, link := .m }
    (s .undecided none).fuseOp = none ∧ (s .undecided none).resetNLow = false ∧
      (s .undecided none).supplyLow = false ∧ (s .printReady none).verdict = .printReady ∧
      (s .undecided (some op)).fuseOp = some op := ⟨rfl, rfl, rfl, rfl, rfl⟩

theorem witness_HoldsEnd :
    let s (n b : Bool) : State :=
      { State.reset with resetNLow := n, supplyLow := b, selfTest := false }
    (s true false).AtRest ∧ (s true true).AtRest ∧ (s true true).fuseOp = none ∧
      (s false true).supplyLow = true :=
  ⟨Sample.rest (by decide +kernel), Sample.rest (by decide +kernel), rfl, rfl⟩

/-- FramesAreHeld: one frame held, and two, with a payload of 1,038 bytes; a RESTART pending with none, and
with its reply unread. -/
theorem witness_FramesAreHeld :
    let f : Frame := ⟨0x02, 4, zeros 1038, 0⟩
    let s (n : Nat) : State := State.drive { State.reset with
      linkE := { Sample.sending with held := List.replicate n ⟨0x02, 2, [], 0⟩ } }
    let r : State := { State.reset with restartPending := true }
    let unread : State := { r with linkM := Sample.sending }
    (∀ x ∈ [s 1, s 2, r, unread], x.AtRest) ∧ (∀ x ∈ [s 1, s 2, r, unread], x.deaf = false) ∧
      (s 1).linkE.ordinary ≠ none ∧ f.payload.length ≤ 1038 ∧
      (∃ q, f = requestFrame .status q) ∧ (s 1).linkE.held.length < 2 ∧ 2 ≤ (s 2).linkE.held.length ∧
      r.restartPending = true ∧ r.linkM.ordinary = none ∧ r.windowLost = false ∧
      unread.linkM.ordinary ≠ none ∧ unread.windowLost = false := by
  refine ⟨Sample.allRest (by decide +kernel), by decide +kernel, by decide +kernel, by decide +kernel,
    ⟨⟨4, zeros 1038, 0⟩, rfl⟩, ?_⟩
  decide +kernel

/-- BrokenFramesSetLinkError: Link E HUNTING and within a frame. -/
theorem witness_BrokenFramesSetLinkError :
    let within : State := { State.reset with linkE := { LinkState.fresh with rx := .assembling [0xA5] } }
    (within.AtRest ∧ within.deaf = false ∧ within.linkE.rx ≠ .hunting ∧ State.reset.pending = []) ∧
    State.reset.AtRest ∧ State.reset.deaf = false ∧ (1 : Half).toNat < 2 ∧
      1040 < (1041 : Half).toNat ∧ State.reset.linkM.ordinary = none ∧
      State.reset.restartPending = false ∧ State.reset.windowLost = false :=
  ⟨⟨Sample.rest (by decide +kernel), rfl, by decide, rfl⟩, Sample.rest (by decide +kernel), rfl, by decide,
    by decide, rfl, rfl, rfl⟩

/-- RepliesLeave: a WAIT reply on each link, an ordinary reply on Link M with and without a RESTART
pending and with a burn running, and on Link E with no frame held, with any one of 1,038 bytes, and with
two, the first a refused SLOT_DROP and a WAIT that parks. -/
theorem witness_RepliesLeave :
    let wait : LinkState :=
      { LinkState.fresh with waitReply := some Sample.reply, sending := some .wait }
    let long : Frame := ⟨0x99, 1, zeros 1038, 0⟩
    let drop : Frame := requestFrame .slotDrop (goodRequest .slotDrop 7 [12])
    let parks : Frame := requestFrame .wait (goodRequest .wait 8 [0x01, 0x00])
    let w : State := State.drive { Sample.verifying with linkM := wait, linkE := wait }
    let m (r : Bool) : State :=
      { Sample.verifying with
        linkM := Sample.sending, restartPending := r
        fuseOp := some { kind := .floor 0 0 1, burnList := [1], position := 0, link := .m } }
    let e (h : List Frame) : State :=
      State.drive { Sample.verifying with linkE := { Sample.sending with held := h } }
    let left (f : Frame) : State := { Sample.verifying with linkE := { LinkState.fresh with held := [f] } }
    let mid : State := State.drive { Sample.verifying with
      linkM := { wait with rx := .assembling [0xA5] }, spi := .request }
    (∀ x ∈ [w, m false, m true, e [], e [long], e [drop, long], e [parks, drop], mid], x.AtRest) ∧
      (w.deaf = false ∧ (m true).deaf = false ∧ (e []).deaf = false ∧ mid.deaf = false ∧
        mid.assembling = true ∧ w.assembling = false ∧ (m true).assembling = false) ∧
      (∀ l, (w.link l).sending = some .wait) ∧ (m true).linkM.sending = some .ordinary ∧
      (e [long]).linkE.sending = some .ordinary ∧ long.payload.length ≤ 1038 ∧
      (e [long]).linkE.rx = .hunting ∧ (e [long]).restartPending = false ∧
      (takeFrame .e drop (left long)).commit.linkE.ordinary ≠ none ∧
      (takeFrame .e parks (left drop)).commit.linkE.ordinary = none := by
  refine ⟨Sample.allRest (by decide +kernel), by decide +kernel, fun l => by cases l <;> rfl, ?_⟩
  decide +kernel

/-- UnreadReplyIsRemoved: no reply and an unread one, with and without a RESTART pending; a burn running;
a held part, with its window shut and ignored; and an ignored window that has begun and one past. -/
theorem witness_UnreadReplyIsRemoved :
    let s (r : Bool) : State := { State.reset with
      linkM := Sample.sending, restartPending := r
      fuseOp := some { kind := .floor 0 0 1, burnList := [1], position := 0, link := .m } }
    let held (w : SpiWindow) : State := { State.reset with
      resetNLow := true, selfTest := false, spi := w, windowIgnored := w != .shut }
    let ignored (w : SpiWindow) : State := { State.reset with spi := w, windowIgnored := true }
    let mid : State := State.drive { State.reset with
      linkM := { LinkState.fresh with rx := .assembling [0xA5] }, spi := .request }
    (∀ x ∈ [State.reset, s false, s true, held .shut, held .request, ignored (.begun none),
      ignored .spent, mid], x.AtRest) ∧ mid.assembling = true ∧
      State.reset.deaf = false ∧ State.reset.windowIgnored = false ∧ State.reset.linkM.ordinary = none ∧
      ((s true).deaf = false ∧ (s true).linkM.ordinary ≠ none ∧ (s true).windowLost = false) ∧
      (Sample.then (exec .replyRemovedUnread (s true)) fun _ => true) = true ∧
      abandons .m .windowEnded = true ∧ (held .shut).deaf = true ∧ (held .shut).spi.past = true ∧
      (ignored (.begun none)).windowLost = true ∧ (held .request).windowLost = true ∧
      ((ignored .spent).deaf = false ∧ (ignored .spent).spi = .spent) ∧
      (1 : Half).toNat < 2 ∧ State.reset.pending = [] := by
  refine ⟨Sample.allRest (by decide +kernel), ?_⟩
  decide +kernel

/-- FrameChecksRefuse: a wrong CRC, a KIND outside the table, and an IDENTIFY with a byte of payload.
The link is ready by `witness_ready_links`. -/
theorem witness_FrameChecksRefuse :
    let crc (f : Frame) : Half := crc16 (leBytes 2 (2 + f.payload.length) ++ f.kind :: f.tag :: f.payload)
    let wrong : Frame := ⟨0x01, 7, [], 0⟩
    let stray : Frame := ⟨0x99, 1, [9], 0xBB6E⟩
    let long := requestFrame .identify (goodRequest .identify 7 [0])
    wrong.crc ≠ crc wrong ∧ (∃ q, wrong = requestFrame .identify q) ∧ stray.crc = crc stray ∧
      (∀ k, stray.kind ≠ kindCode k) ∧ long.crc = crc long ∧
      payloadSizeOk .identify long.payload.length = false := by
  refine ⟨by decide +kernel, ⟨⟨7, [], 0⟩, rfl⟩, by decide +kernel, ?_, by decide +kernel,
    by decide +kernel⟩
  intro k
  cases k <;> decide +kernel

/-- WrongModeRefuses: each clause, the last with the largest payload of its kind. -/
theorem witness_WrongModeRefuses :
    ((State.reset.AtRest ∧ State.reset.Ready .m) ∧
      (Sample.provisioning.AtRest ∧ Sample.provisioning.Ready .m)) ∧
    (Kind.policySet ∈ ([.policySet, .keyEnroll, .provisionClose] : List Kind) ∧
      State.reset.mode ≠ .provision ∧ payloadSizeOk .policySet 33 = true) ∧
    (State.reset.mode = .startup ∧ payloadSizeOk .policyGet 0 = true) ∧
    (Sample.provisioning.mode ≠ .verify ∧ payloadSizeOk .slotOpen 1 = true) ∧
    (Sample.provisioning.mode ≠ .settled ∧ payloadSizeOk .segData (7 + 1024) = true ∧
      (zeros (7 + 1024)).length ≤ 1038) :=
  ⟨⟨Sample.ready (by decide +kernel), Sample.ready (by decide +kernel)⟩, by decide +kernel,
   by decide +kernel, by decide +kernel, by decide +kernel⟩

/-- LineEvaluation: line FAX_GO of Table 7-6, whose soft class FNSH is FAILED, DECLINED, PENDING. -/
theorem witness_LineEvaluation :
    let x : LineRec := { need := 0x01, soft := 0x80, state := .held }
    let at7 (st : ClassState) : Vector ClassRec 8 :=
      tabulate fun c => { ClassRec.unused with state := if c = 7 then st else .verified }
    let lost (cs : Vector ClassRec 8) : Prop := ∃ c : Fin 8,
      (x.need.getLsbD c = true ∧ (cs[c].state = .declined ∨ cs[c].state = .failed)) ∨
      (x.soft.getLsbD c = true ∧ cs[c].state = .failed)
    let good (cs : Vector ClassRec 8) : Prop := ∀ c : Fin 8,
      (x.need.getLsbD c = true → cs[c].state = .verified) ∧
      (x.soft.getLsbD c = true → cs[c].state = .verified ∨ cs[c].state = .declined)
    lost (at7 .failed) ∧ (¬lost (at7 .declined) ∧ good (at7 .declined)) ∧
      (¬lost (at7 .pending) ∧ ¬good (at7 .pending)) := by decide +kernel

/-- FrameBytesSpellCommand: the longest payload, and a KIND outside the table. -/
theorem witness_FrameBytesSpellCommand :
    (zeros 1038).length ≤ 1038 ∧ ∀ k, (0x99 : Byte) ≠ kindCode k := by
  refine ⟨by decide +kernel, ?_⟩
  intro k
  cases k <;> decide +kernel

/-- SoundnessKept: the reset state and a part in VERIFY, each with a command in its queue whose step
answers next; and a part with a context claimed and its chunk in the core. -/
theorem witness_SoundnessKept :
    let s : State := { State.reset with pending := [.selftestComplete] }
    let v : State := { Sample.due 1 with pending := [.bootWindowTick] }
    let w : State := { (Sample.streaming (Sample.claim 2 1 [0x61] false)).setClass 0
        { Sample.verifying.classes[0] with attempts := 1 } with
      core := some (Sample.chunk [0x62]), active := some (.manifest 0 1 [] [] []) }
    s.Sound ∧ w.Sound ∧ Sample.then (step s) (fun t => t.mode == .provision) = true ∧
      v.Sound ∧ Sample.then (step v) (fun t => t.window.count == 0) = true := by
  refine ⟨?_, ?_, by decide +kernel, ?_, by decide +kernel⟩ <;> constructor <;>
    first
    | decide +kernel
    | constructor <;> decide +kernel

/-- ReleasedLinesStand: a part whose first line is RELEASED on a VERIFIED class, in a decline. -/
theorem witness_ReleasedLinesStand :
    let s := { Sample.verifying with
      classes := tabulate fun c =>
        if c = 6 then Sample.verifying.classes[6]
        else { Sample.verifying.classes[c] with state := .verified }
      lines := put Sample.verifying.lines 0 { Sample.verifying.lines[0] with state := .released }
      pending := [.classDecline .m (goodRequest .classDecline 0 [6])] }
    s.LinesStand ∧ s.lines[0].state = .released ∧
      Sample.then (step s) (fun t => t.lines[0].state == .released && t.classes[6].state == .declined) =
        true := by
  refine ⟨?_, by decide +kernel, by decide +kernel⟩
  unfold State.LinesStand LineRec.Stands
  decide +kernel

/-- FusesAreOneWay: a step that burns fuse 2 of a row whose fuse 1 reads 1. -/
theorem witness_FusesAreOneWay :
    Sample.then (step { Sample.verifying with
      fuses := { Fuses.unburnt with floors := put Fuses.unburnt.floors 0 1 }
      fuseOp := some { kind := .floor 0 0 2, burnList := [2], position := 0, link := .m }
      pending := [.fuseBurnComplete true []] }) (fun t => t.fuses.floors[0] == 3) = true := by
  decide +kernel
end

section
/-! SUPPORT. The tests over the classes of a mask, and the evaluation of a line, in the terms of the
manual (R117). -/

namespace Sys2Proof.Machine

theorem maskAny_iff (classes : Vector ClassRec 8) (mask : Byte) (p : ClassState → Bool) :
    maskAny classes mask p = true ↔
      ∃ c : Fin 8, mask.getLsbD c = true ∧ p classes[c].state = true := by
  simp [maskAny]

theorem maskAll_iff (classes : Vector ClassRec 8) (mask : Byte) (p : ClassState → Bool) :
    maskAll classes mask p = true ↔
      ∀ c : Fin 8, mask.getLsbD c = true → p classes[c].state = true := by
  simp [maskAll, imp_iff_not_or]

/-- What a line is locked for: a need class DECLINED or FAILED, or a soft class FAILED (R117, case 1).
Its other side, what a line is released on, is `LineRec.Stands`. -/
def LineRec.Lost (classes : Vector ClassRec 8) (x : LineRec) : Prop :=
  ∃ c : Fin 8,
    (x.need.getLsbD c = true ∧ (classes[c].state = .declined ∨ classes[c].state = .failed)) ∨
    (x.soft.getLsbD c = true ∧ classes[c].state = .failed)

/-- Two mask tests, one for the need mask and one for the soft mask, say that the line is lost. -/
theorem LineRec.lost_iff (classes : Vector ClassRec 8) (x : LineRec) :
    (maskAny classes x.need (fun t => t == .declined || t == .failed) ||
      maskAny classes x.soft (fun t => t == .failed)) = true ↔ x.Lost classes := by
  simp only [LineRec.Lost, exists_or, Bool.or_eq_true, maskAny_iff, beq_iff_eq]

/-- Two mask tests, one for the need mask and one for the soft mask, say that the line stands. -/
theorem LineRec.stands_iff (classes : Vector ClassRec 8) (x : LineRec) :
    (maskAll classes x.need (fun t => t == .verified) &&
      maskAll classes x.soft (fun t => t == .verified || t == .declined)) = true ↔
        x.Stands classes := by
  simp only [LineRec.Stands, forall_and, Bool.and_eq_true, Bool.or_eq_true, maskAll_iff, beq_iff_eq]

/-- The evaluation takes the first case of R117 that applies. -/
theorem evaluateLine_eq (classes : Vector ClassRec 8) (x : LineRec)
    [Decidable (x.Lost classes)] [Decidable (x.Stands classes)] :
    evaluateLine classes x =
      if x.Lost classes then .locked else if x.Stands classes then .released else .held :=
  if_congr (x.lost_iff classes) rfl (if_congr (x.stands_iff classes) rfl rfl)

/-- Settles O54: the three cases of `evaluateLine_eq`, in their order. -/
theorem lineEvaluation : Obligations.LineEvaluation := by
  classical
  intro classes x
  refine ⟨fun (lost : x.Lost classes) => ?_,
    fun (kept : ¬x.Lost classes) (stands : x.Stands classes) => ?_,
    fun (kept : ¬x.Lost classes) (weak : ¬x.Stands classes) => ?_⟩
  · rw [evaluateLine_eq, if_pos lost]
  · rw [evaluateLine_eq, if_neg kept, if_pos stands]
  · rw [evaluateLine_eq, if_neg kept, if_neg weak]

end Sys2Proof.Machine
end

section
/-! SUPPORT. What a good request on a ready link leaves when its handler only answers, and what POLICY_GET
answers (R146). -/

namespace Sys2Proof.Machine

/-- A good request on a ready link of a part at rest, whose handler changes nothing, leaves its reply
alone (R170, R171). -/
theorem State.request_replied {s : State} {l : Link} (rest : s.AtRest) (ready : s.Ready l) {k : Kind}
    {hd : Handler} {tag : Byte} {payload : List Byte} {status : Status} {reply : List Byte}
    (fits : payload.length ≤ 1038) (size : payloadSizeOk k payload.length = true)
    (answers : ∀ f, hd l f ((s.hunt l).spendWindow l) =
      serve ((s.hunt l).spendWindow l) status reply) :
    s.request k hd l (goodRequest k tag payload) =
      s.replied l (replyOf k tag status reply) := by
  rw [State.request_ready ready k hd tag payload fits size, answers, serve,
    State.answer_replied rest ready.entry rfl]
  rfl

/-- The mode check of POLICY_GET comes first (R146). -/
theorem takePolicyGet_wrongMode {s : State} (mode : s.mode = .startup ∨ s.mode = .failsafe)
    (l : Link) (f : Frame) :
    takePolicyGet l f s = serve s .wrongMode (List.replicate 34 0) :=
  if_pos mode

/-- The link check of POLICY_GET comes behind the mode check (R146). -/
theorem takePolicyGet_linkDenied {s : State}
    (mode : s.mode = .provision ∨ s.mode = .verify ∨ s.mode = .settled) (f : Frame) :
    takePolicyGet .e f s = serve s .linkDenied (List.replicate 34 0) := by
  have passes : ¬(s.mode = .startup ∨ s.mode = .failsafe) := by
    rcases mode with m | m | m <;> simp [m]
  unfold takePolicyGet
  rw [if_neg passes, if_pos rfl]
  rfl

/-- In PROVISION the source is 0, STAGED (R146). -/
theorem takePolicyGet_staged {s : State} (mode : s.mode = .provision) (f : Frame) :
    takePolicyGet .m f s = serve s .ok (0 :: policyBytes s.staging) := by
  simp [takePolicyGet, mode]

/-- In VERIFY and SETTLED the source is 1, IN_FORCE (R146). -/
theorem takePolicyGet_inForce {s : State} (mode : s.mode = .verify ∨ s.mode = .settled) {p : Policy}
    (policy : s.inForce = some p) (f : Frame) :
    takePolicyGet .m f s = serve s .ok (1 :: policyBytes p) := by
  rcases mode with m | m <;> simp [takePolicyGet, m, policy]

/-- A POLICY_GET, whose request has no payload, leaves the reply that its handler gives. -/
theorem exec_policyGet_replied {s : State} {l : Link} (rest : s.AtRest) (ready : s.Ready l)
    {tag : Byte} {status : Status} {reply : List Byte}
    (answers : ∀ f, takePolicyGet l f ((s.hunt l).spendWindow l) =
      serve ((s.hunt l).spendWindow l) status reply) :
    exec (.policyGet l (goodRequest .policyGet tag [])) s =
      .next (s.replied l (replyOf .policyGet tag status reply)) := by
  have served : s.request .policyGet takePolicyGet l (goodRequest .policyGet tag []) =
      s.replied l (replyOf .policyGet tag status reply) :=
    State.request_replied rest ready (Nat.zero_le _) rfl answers
  rw [← served]
  rfl

/-- Settles O28: the handler reads mode, staging and policy in force, which taking the frame leaves, and
each clause is one of its four answers. -/
theorem policyGetReports : Obligations.PolicyGetReports := by
  intro s l tag rest ready
  have mode : ((s.hunt l).spendWindow l).mode = s.mode := by simp [State.hunt]
  have staging : ((s.hunt l).spendWindow l).staging = s.staging := by simp [State.hunt]
  have inForce : ((s.hunt l).spendWindow l).inForce = s.inForce := by simp [State.hunt]
  refine ⟨fun refused => ?wrongMode, fun onE passes => ?linkDenied, fun onM provision => ?staged,
    fun p onM verifying policy => ?inForce⟩
  case wrongMode =>
    exact exec_policyGet_replied rest ready (takePolicyGet_wrongMode (by rwa [mode]) l)
  case linkDenied =>
    subst onE
    exact exec_policyGet_replied rest ready (takePolicyGet_linkDenied (by rwa [mode]))
  case staged =>
    subst onM
    rw [← staging]
    exact exec_policyGet_replied rest ready (takePolicyGet_staged (mode.trans provision))
  case inForce =>
    subst onM
    exact exec_policyGet_replied rest ready
      (takePolicyGet_inForce (by rwa [mode]) (inForce.trans policy))

end Sys2Proof.Machine
end

section
/-! SUPPORT. What the bytes of an event mask and of a one-byte index spell when a request carries them, and
which requests read them (R160, R183). -/

namespace Sys2Proof.Machine

/-- Little-endian bytes spell the number they were made of, as far as they reach. -/
theorem leNat_leBytes (n v : Nat) : leNat (leBytes n v) = v % 256 ^ n := by
  induction n generalizing v with
  | zero => simp [leBytes, leNat, Nat.mod_one]
  | succ n ih => rw [leBytes, leNat, ih, BitVec.toNat_ofNat, pow_succ' 256 n, Nat.mod_mul]

/-- A mask read back from its two bytes is the mask, with bits 9 to 15 taken as zero (R183). -/
theorem maskOperand_leBytes (m : Half) : maskOperand (leBytes 2 m.toNat) = m &&& 0x1FF := by
  have whole : slice (leBytes 2 m.toNat) 0 2 = leBytes 2 m.toNat := rfl
  have spelled : BitVec.ofNat 16 (m.toNat % 256 ^ 2) = m :=
    BitVec.eq_of_toNat_eq (by rw [BitVec.toNat_ofNat]; omega)
  rw [maskOperand, whole, leNat_leBytes, spelled, flagBits]

theorem byteOf_toNat {v : Nat} (h : v < 256) : (byteOf v).toNat = v :=
  BitVec.toNat_ofNat v 8 ▸ Nat.mod_eq_of_lt h

theorem index?_eq_none {n v : Nat} (h : n ≤ v) : index? n v = none := dif_neg h.not_gt

theorem index?_val {n : Nat} (i : Fin n) : index? n i.val = some i := dif_pos i.isLt

/-- A good request on a ready link of a part at rest, whose handler reads its payload and changes nothing,
leaves its reply alone (R170, R171). -/
theorem State.request_replied_of_payload {s : State} {l : Link} (rest : s.AtRest) (ready : s.Ready l)
    {k : Kind} {hd : Handler} {tag : Byte} {payload : List Byte} {status : Status} {reply : List Byte}
    (fits : payload.length ≤ 1038) (size : payloadSizeOk k payload.length = true)
    (answers : ∀ f, f.payload = payload → hd l f ((s.hunt l).spendWindow l) =
      serve ((s.hunt l).spendWindow l) status reply) :
    s.request k hd l (goodRequest k tag payload) = s.replied l (replyOf k tag status reply) := by
  rw [State.request_ready ready k hd tag payload fits size, answers _ rfl, serve,
    State.answer_replied rest ready.entry rfl]
  rfl

end Sys2Proof.Machine
end

section
/-! SUPPORT. The requests that move a link's flags or its ATTN mask: what is left by a handler that does so
and answers (R162, R163). -/

namespace Sys2Proof.Machine

/-- A link whose flags and ATTN mask are moved, and nothing else. -/
def LinkState.moveEvents (flags mask : Half → Half) (x : LinkState) : LinkState :=
  { x with flags := flags x.flags, attnMask := mask x.attnMask }

/-- A state in which one link's flags and mask are moved, and the pins follow. -/
def State.moveEvents (s : State) (l : Link) (flags mask : Half → Half) : State :=
  (s.onLink l (LinkState.moveEvents flags mask)).drive

/-- A link at rest stays so, given that no flag is set that its parked WAIT may name. -/
theorem LinkState.AtRest.moveEvents {x : LinkState} (h : x.AtRest) {flags : Half → Half}
    (clears : ∀ v w : Half, v &&& w = 0 → flags v &&& w = 0) (mask : Half → Half) :
    (x.moveEvents flags mask).AtRest where
  parked w parked := clears _ _ (h.parked w parked)
  sending := h.sending

/-- A part at rest stays so, given the same of the link that is changed. -/
theorem State.AtRest.moveEvents {s : State} (h : s.AtRest) (l : Link) {flags : Half → Half}
    (clears : ∀ v w : Half, v &&& w = 0 → flags v &&& w = 0) (mask : Half → Half) :
    (s.moveEvents l flags mask).AtRest := by
  cases l with
  | m => exact ⟨h.linkM.moveEvents clears mask, h.linkE, rfl⟩
  | e => exact ⟨h.linkM, h.linkE.moveEvents clears mask, rfl⟩

/-- A good request on a ready link of a part at rest, whose handler clears flags or moves the ATTN mask of
that link, leaves its reply, that change, and the pins that follow. -/
theorem State.request_moveEvents {s : State} {l : Link} (rest : s.AtRest) (ready : s.Ready l) {k : Kind}
    {hd : Handler} {tag : Byte} {payload : List Byte} {reply : List Byte} {flags mask : Half → Half}
    (clears : ∀ v w : Half, v &&& w = 0 → flags v &&& w = 0)
    (fits : payload.length ≤ 1038) (size : payloadSizeOk k payload.length = true)
    (answers : ∀ f, f.payload = payload → hd l f ((s.hunt l).spendWindow l) =
      serve (((s.hunt l).spendWindow l).onLink l (LinkState.moveEvents flags mask)) .ok reply) :
    s.request k hd l (goodRequest k tag payload) =
      (s.replied l (replyOf k tag .ok reply)).moveEvents l flags mask := by
  have entry : ((s.moveEvents l flags mask).link l).ordinary = none := by
    have e := ready.entry
    cases l <;> exact e
  calc s.request k hd l (goodRequest k tag payload)
    _ = (((s.moveEvents l flags mask).spendWindow l).onLink l fun x =>
          { x with rx := .hunting, ordinary := some (replyOf k tag .ok reply) }).commit := by
        rw [State.request_ready ready k hd tag payload fits size, answers _ rfl]
        cases l <;> rfl
    _ = (s.moveEvents l flags mask).replied l (replyOf k tag .ok reply) :=
        State.commit_replied (rest.moveEvents l clears mask) entry _
    _ = (s.replied l (replyOf k tag .ok reply)).moveEvents l flags mask := by cases l <;> rfl

end Sys2Proof.Machine
end

section
/-! SUPPORT. EVENT_MASK and EVENT_CLEAR (R162, R163). -/

namespace Sys2Proof.Machine

/-- EVENT_MASK moves the mask of the requesting link alone, and reports it with the link's flags (R163). -/
theorem takeEventMask_eq (l : Link) (s : State) {f : Frame} {m : Half}
    (payload : f.payload = leBytes 2 m.toNat) :
    takeEventMask l f s = serve (s.onLink l (LinkState.moveEvents id fun _ => m &&& 0x1FF)) .ok
      (leBytes 2 (m &&& 0x1FF).toNat ++ leBytes 2 (s.link l).flags.toNat) := by
  rw [takeEventMask, payload, maskOperand_leBytes]
  rfl

/-- EVENT_CLEAR clears the named flags of the requesting link alone, and reports the flags left (R162). -/
theorem takeEventClear_eq (l : Link) (s : State) {f : Frame} {m : Half}
    (payload : f.payload = leBytes 2 m.toNat) :
    takeEventClear l f s =
      serve (s.onLink l (LinkState.moveEvents (fun v => v &&& ~~~(m &&& 0x1FF)) id)) .ok
        (leBytes 2 ((s.link l).flags &&& ~~~(m &&& 0x1FF)).toNat) := by
  rw [takeEventClear, payload, maskOperand_leBytes]
  cases l <;> rfl

/-- Taking a frame leaves the flags of its link. -/
theorem State.taken_flags (s : State) (l : Link) :
    (((s.hunt l).spendWindow l).link l).flags = (s.link l).flags := by
  rw [State.spendWindow_link, State.hunt, State.link_onLink_self]

/-- A cold reset leaves both links fresh (Table 9-4). -/
theorem State.coldReset_link (s : State) (cause : ColdCause) (l : Link) :
    (s.coldReset cause).link l = LinkState.fresh := by cases l <;> rfl

/-- A warm reset leaves both links fresh (Table 9-4). -/
theorem State.warmReset_link (s : State) (cause : ResetCause) (l : Link) :
    (s.warmReset cause).link l = LinkState.fresh := by cases l <;> rfl

/-- Settles O5: a mask move sets no flag, so the reply alone is added to it; a fresh link's mask is 0. -/
theorem eventMaskStores : Obligations.EventMaskStores := by
  refine ⟨fun s l tag m rest ready => ?stored, fun s l cause => ?cold, fun s l cause => ?warm⟩
  case stored =>
    have moved := State.request_moveEvents (k := .eventMask) (tag := tag) rest ready (fun _ _ h => h)
      (Nat.le_add_left 2 _) rfl fun _ payload =>
        takeEventMask_eq l ((s.hunt l).spendWindow l) (m := m) payload
    rw [State.taken_flags] at moved
    exact congrArg Host.Outcome.next moved
  case cold => rw [State.coldReset_link]; rfl
  case warm => rw [State.warmReset_link]; rfl

/-- A flag that is not set is not set after a clear. -/
theorem and_clear_eq_zero (m v w : Half) (h : v &&& w = 0) : v &&& ~~~m &&& w = 0 := by
  rw [BitVec.and_assoc, BitVec.and_comm (~~~m), ← BitVec.and_assoc, h]
  exact BitVec.zero_and

/-- Settles O6: clearing sets no flag, so no parked WAIT is answered and the reply alone is added to it. -/
theorem eventClearClears : Obligations.EventClearClears := by
  intro s l tag m rest ready
  have cleared := State.request_moveEvents (k := .eventClear) (tag := tag) rest ready
    (and_clear_eq_zero (m &&& 0x1FF)) (Nat.le_add_left 2 _) rfl fun _ payload =>
      takeEventClear_eq l ((s.hunt l).spendWindow l) (m := m) payload
  rw [State.taken_flags] at cleared
  exact congrArg Host.Outcome.next cleared

end Sys2Proof.Machine
end

section
/-! SUPPORT. FAULT_READ, and where the bytes of a fault record stand in its reply (R160, Table 11-12). -/

namespace Sys2Proof.Machine

/-- A truth value as a byte is its bit 0 alone. -/
theorem flagByte_getElem (b : Bool) (i : Nat) (h : i < 8) : (flagByte b)[i] = (b && decide (i = 0)) := by
  cases b <;> simp [flagByte]

/-- The byte of a fault record that marks which of its optional fields are present (Table 11-12). -/
def FaultRecord.presence (r : FaultRecord) : Byte :=
  flagByte r.link.isSome ||| (flagByte r.slot.isSome <<< 1) ||| (flagByte r.cls.isSome <<< 2) |||
    (flagByte r.seg.isSome <<< 3) ||| (flagByte r.key.isSome <<< 4)

/-- Bit `i` of the mark byte is the mark of the `i`-th optional field. -/
theorem FaultRecord.presence_getLsbD (r : FaultRecord) :
    r.presence.getLsbD 0 = r.link.isSome ∧ r.presence.getLsbD 1 = r.slot.isSome ∧
    r.presence.getLsbD 2 = r.cls.isSome ∧ r.presence.getLsbD 3 = r.seg.isSome ∧
    r.presence.getLsbD 4 = r.key.isSome := by
  simp [FaultRecord.presence, flagByte_getElem]

/-- The 21 bytes of a record whose detail has its eight. -/
theorem faultBytes_eq {r : FaultRecord} (detail : r.detail.length = 8) :
    faultBytes r = leBytes 6 r.stamp.toNat ++
      [faultCode r.code, r.presence, (r.link.map linkCode).getD 0, (r.slot.map fun i => byteOf i).getD 0,
        (r.cls.map fun c => byteOf c).getD 0, r.seg.getD 0, (r.key.map fun k => byteOf k).getD 0] ++
      r.detail := by
  have whole : padTo 8 r.detail = r.detail := by
    rw [padTo_of_le detail.ge, List.take_of_length_le detail.le]
  rw [faultBytes, whole]
  rfl

/-- An index above 3 is refused (R160). -/
theorem takeFaultRead_badIndex (l : Link) (s : State) {f : Frame} {b : Byte} (payload : f.payload = [b])
    (above : 3 < b.toNat) : takeFaultRead l f s = serve s .badIndex (List.replicate 22 0) := by
  have absent : index? 4 (byteAt [b] 0).toNat = none := index?_eq_none above
  rw [takeFaultRead, payload, absent]
  rfl

/-- An index of 0 to 3 is answered with the index and its record (R160). -/
theorem takeFaultRead_record (l : Link) (s : State) {f : Frame} (i : Fin 4)
    (payload : f.payload = [byteOf i]) :
    takeFaultRead l f s = serve s .ok (byteOf i :: faultBytes s.faults[i]) := by
  have named : index? 4 (byteAt [byteOf i] 0).toNat = some i := by
    rw [show byteAt [byteOf i] 0 = byteOf i from rfl, byteOf_toNat (by omega), index?_val]
  rw [takeFaultRead, payload, named]

/-- A FAULT_READ leaves the reply that its handler gives. -/
theorem exec_faultRead_replied {s : State} {l : Link} (rest : s.AtRest) (ready : s.Ready l)
    {tag b : Byte} {status : Status} {reply : List Byte}
    (answers : ∀ f, f.payload = [b] → takeFaultRead l f ((s.hunt l).spendWindow l) =
      serve ((s.hunt l).spendWindow l) status reply) :
    exec (.faultRead l (goodRequest .faultRead tag [b])) s =
      .next (s.replied l (replyOf .faultRead tag status reply)) :=
  congrArg Host.Outcome.next
    (State.request_replied_of_payload rest ready (Nat.le_add_left 1 _) rfl answers)

/-- Settles O8: the reply is the index and the bytes of the record, each read at its place in
`faultBytes_eq`. -/
theorem faultReadReports : Obligations.FaultReadReports := by
  intro s l tag b rest ready
  have faults : ((s.hunt l).spendWindow l).faults = s.faults := by simp [State.hunt]
  refine ⟨fun above => ?refused, ?reported⟩
  case refused =>
    exact exec_faultRead_replied rest ready fun _ payload =>
      takeFaultRead_badIndex l _ payload above
  case reported =>
    rintro i rfl detail
    have answered := exec_faultRead_replied (tag := tag) rest ready fun _ payload =>
      takeFaultRead_record l ((s.hunt l).spendWindow l) i payload
    rw [faults] at answered
    refine ⟨_, answered, ?_⟩
    generalize s.faults[i] = r at detail ⊢
    obtain ⟨link, slot, cls, seg, key⟩ := r.presence_getLsbD
    rw [faultBytes_eq detail]
    refine ⟨by simp [detail], rfl, rfl, rfl, fun empty => congrArg faultCode empty, link, slot, cls, seg,
      key, ?_, ?_, ?_, ?_, ?_, List.take_of_length_le detail.le⟩
    · rcases r.link with _ | _ | _ <;> rfl
    · cases r.slot <;> rfl
    · cases r.cls <;> rfl
    · cases r.seg <;> rfl
    · cases r.key <;> rfl

end Sys2Proof.Machine
end

section
/-! SUPPORT. Reading a byte string by its blocks: what stands at a block's place in a joined string, and each
byte of a block. -/

namespace Sys2Proof.Machine

/-- In a string joined of blocks, each block stands behind the lengths of those before it. -/
theorem slice_flatten (blocks : List (List Byte)) (j : Nat) (h : j < blocks.length) :
    slice blocks.flatten ((blocks.map List.length).take j).sum blocks[j].length = blocks[j] := by
  have cut := List.drop_take_succ_flatten_eq_getElem blocks j h
  rw [List.drop_take, List.take_succ_eq_append_getElem (by simpa using h), List.sum_append] at cut
  simpa [slice] using cut

/-- A byte of a block, read in the whole string. -/
theorem byteAt_of_slice {p block : List Byte} {k n : Nat} (at_k : slice p k n = block) {i : Nat}
    (h : i < n) : byteAt p (k + i) = byteAt block i := by
  subst at_k
  simp [byteAt, slice, h]

/-- An entry of a block that tabulates a function, read in the whole string. -/
theorem byteAt_of_slice_table {p : List Byte} {k n : Nat} {g : Fin n → Byte}
    (at_k : slice p k n = (List.finRange n).map g) (i : Fin n) : byteAt p (k + i) = g i := by
  rw [byteAt_of_slice at_k i.isLt]
  simp [byteAt]

end Sys2Proof.Machine
end

section
/-! SUPPORT. IDENTIFY and STATUS, which report and change nothing (R181, R182). -/

namespace Sys2Proof.Machine

/-- The payload of IDENTIFY byte by byte (R181). -/
theorem identifyPayload_eq (s : State) :
    identifyPayload s = [0x56, 0x41, 0x40, 0x06, 0x01] ++ s.rom.serial.toList ++
      [modeCode s.mode, if s.fuses.closing.getLsbD 280 then 1 else 0] := rfl

/-- Taking a frame leaves all that IDENTIFY reports. -/
theorem identifyPayload_taken (s : State) (l : Link) :
    identifyPayload ((s.hunt l).spendWindow l) = identifyPayload s := by
  cases l <;> rfl

/-- Settles O3: the handler answers with its payload alone, and a notice message carries the serial in the
same order. -/
theorem identifyReports : Obligations.IdentifyReports := by
  intro s l tag rest ready
  have replied : s.request .identify takeIdentify l (goodRequest .identify tag []) =
      s.replied l (replyOf .identify tag .ok (identifyPayload s)) :=
    State.request_replied rest ready (Nat.zero_le _) rfl fun _ => by
      rw [takeIdentify, identifyPayload_taken]
  rw [identifyPayload_eq] at replied
  exact ⟨congrArg Host.Outcome.next replied, fun _ => rfl⟩

/-- The fields of Table 11-10 in their order, one block each: a field of one byte per line or per class is a
table over them, and the counts from the fuse controller on are one block. -/
def statusBlocks (l : Link) (s : State) : List (List Byte) :=
  [[modeCode s.mode, verdictCode s.verdict],
   leBytes 6 s.bootClock.toNat,
   [byteOf s.window.count, byteOf s.window.prescale, byteOf s.window.extUsed],
   (List.finRange 6).map fun i => lineStateCode s.lines[i].state,
   (List.finRange 8).map fun c => classStateCode s.classes[c].state,
   (List.finRange 8).map fun c => byteOf s.classes[c].attempts,
   (List.finRange 8).map fun c => verifiedSlotByte s.classes[c],
   s.floorBytes,
   leBytes 2 (s.link l).flags.toNat,
   [s.fuseCode, byteOf s.jobDepth, byteOf s.idleCtxs, byteOf s.freeSlots],
   [byteOf (causeCode s.cause.last), s.cause.flags.setWidth 8, byteOf s.failedCount]]

/-- The payload of STATUS is its fields joined. -/
theorem statusPayload_eq_flatten (l : Link) (s : State) :
    statusPayload l s = (statusBlocks l s).flatten := by
  simp [statusPayload, statusBlocks]

/-- Taking a frame leaves all that STATUS reports. -/
theorem statusPayload_taken (s : State) (l : Link) :
    statusPayload l ((s.hunt l).spendWindow l) = statusPayload l s := by
  cases l <;> rfl

/-- Settles O4: the handler answers with its payload alone, and each field is a block of it, read at its
place. -/
theorem statusReports : Obligations.StatusReports := by
  intro s l tag rest ready
  have replied : s.request .status takeStatus l (goodRequest .status tag []) =
      s.replied l (replyOf .status tag .ok (statusPayload l s)) :=
    State.request_replied rest ready (Nat.zero_le _) rfl fun _ => by
      rw [takeStatus, statusPayload_taken]
  refine ⟨statusPayload l s, congrArg Host.Outcome.next replied, ?_⟩
  rw [statusPayload_eq_flatten]
  generalize whole : (statusBlocks l s).flatten = p
  have block (j : Fin 11) := whole ▸ slice_flatten (statusBlocks l s) j j.isLt
  have lines : slice p 11 6 = (List.finRange 6).map fun i => lineStateCode s.lines[i].state := block 3
  have states : slice p 17 8 = (List.finRange 8).map fun c => classStateCode s.classes[c].state := block 4
  have attempts : slice p 25 8 = (List.finRange 8).map fun c => byteOf s.classes[c].attempts := block 5
  have verified : slice p 33 8 = (List.finRange 8).map fun c => verifiedSlotByte s.classes[c] := block 6
  have floors : slice p 41 8 = s.floorBytes := block 7
  have counts : slice p 51 4 =
    [s.fuseCode, byteOf s.jobDepth, byteOf s.idleCtxs, byteOf s.freeSlots] := block 9
  refine ⟨whole ▸ rfl, block 0, block 1, block 2, byteAt_of_slice_table lines, fun c =>
    ⟨byteAt_of_slice_table states c, byteAt_of_slice_table attempts c, byteAt_of_slice_table verified c,
      byteAt_of_slice_table floors c⟩, block 8, ?_, ?_, ?_, ?_, block 10⟩
  · exact byteAt_of_slice counts (i := 0) (by decide)
  · exact byteAt_of_slice counts (i := 1) (by decide)
  · exact byteAt_of_slice counts (i := 2) (by decide)
  · exact byteAt_of_slice counts (i := 3) (by decide)

end Sys2Proof.Machine
end

section
/-! SUPPORT. What a step can do, said once: it changes the links, or it is one of the changes that a request
or a unit makes of the rest of the part, or several of these one after another. -/

namespace Sys2Proof.Machine

/-- States that differ in the links, the window of Link M, a pending RESTART, the pins and the draws of free
values alone. -/
def State.SameBody (s t : State) : Prop :=
  ∃ m e spi ignored pins restart count,
    t = { s with linkM := m, linkE := e, spi := spi, windowIgnored := ignored, pins := pins,
                 restartPending := restart, freeCount := count }

theorem State.SameBody.refl (s : State) : s.SameBody s := ⟨_, _, _, _, _, _, _, rfl⟩

theorem State.SameBody.trans {s t u : State} (h : s.SameBody t) (k : t.SameBody u) : s.SameBody u := by
  obtain ⟨_, _, _, _, _, _, _, rfl⟩ := h
  obtain ⟨_, _, _, _, _, _, _, rfl⟩ := k
  exact ⟨_, _, _, _, _, _, _, rfl⟩

/-- All that a request can do to the part beside its links, with the checks that it has passed. -/
inductive State.Serves (s : State) : State → Prop
  | opens (c : Fin 8) (l : Link) (i : Fin 12) (mode : s.mode = .verify)
      (accepted : classRefusal s.classes[c] l = none) (slot : s.freeSlot = some i) :
      s.Serves ((s.setSlot i (s.slots[i].opened c l)).setClass c
        { s.classes[c] with attempts := s.classes[c].attempts + 1 })
  | appends (i : Fin 12) (data : List Byte) (state : s.slots[i].state = .loading)
      (fits : s.slots[i].buffer.length + data.length ≤ maxManifest) :
      s.Serves (s.setSlot i { s.slots[i] with buffer := s.slots[i].buffer ++ data })
  | rejects (i : Fin 12) (e : CheckFailure) (state : s.slots[i].state = .loading) :
      s.Serves (s.conclude (s.reject i e.code none e.key e.detail))
  | checks (i : Fin 12) (c : Fin 8) (p : Parsed) (state : s.slots[i].state = .loading)
      (good : s.manifestChecks c s.slots[i].buffer = .ok p) (room : s.queueRoom = true) :
      s.Serves ((s.setSlot i (s.slots[i].closedWith p)).placeJob (.manifest i s.slots[i].gen))
  | drops (i : Fin 12) (state : s.slots[i].state ≠ .verified) : s.Serves (s.drop i)
  | claims (i : Fin 12) (p : Parsed) (j : Nat) (x : Fin 4)
      (state : s.slots[i].state = .checking ∨ s.slots[i].state = .signed)
      (parsed : s.slots[i].parsed = some p) (accepted : s.segmentRefusal i p j = none)
      (ctx : s.idleCtx = some x) :
      s.Serves ((s.setCtx x (some (openedClaim i s.slots[i].gen p j))).setSlot i
        { s.slots[i] with openCtxs := s.slots[i].openCtxs ++ [x] })
  | queues (x : Fin 4) (c : Claim) (data : List Byte) (claim : s.ctxs[x] = some c)
      (room : s.chunkQueue.length < 8) : s.Serves (s.acceptChunk x c data)
  | closes (x : Fin 4) (c : Claim) (claim : s.ctxs[x] = some c) :
      s.Serves (s.closeSegment x c).1
  | declines (c : Fin 8) (mode : s.mode = .verify) (accepted : declineRefusal s.classes[c] = none) :
      s.Serves (s.decline c)
  | reloads (mode : s.mode = .verify) : s.Serves s.extendWindow
  | starts (op : FuseOp) (mode : s.mode ≠ .startup) (idle : s.fusesIdle = true) :
      s.Serves { s with fuseOp := some op }
  | notices (l : Link) (target : Fin 10) (signer : Fin 2) (signature : List Byte)
      (mode : s.mode = .verify ∨ s.mode = .settled) (idle : s.fusesIdle = true)
      (room : s.queueRoom = true) : s.Serves (s.acceptNotice l target signer signature)
  | stages (p : Policy) : s.Serves { s with staging := p }

/-- All that one event can do to the part beside its links: serve a request, end a unit's work, move the
time base, or reset. -/
inductive State.Event (s : State) : State → Prop
  | serves {t : State} : s.Serves t → s.Event t
  | chunk : s.Event s.finishChunk
  | manifestJob : s.Event s.endManifestJob
  | revokeJob : s.Event s.endRevokeJob
  | burn (took : Bool) (strays : List Nat) : s.Event (s.finishBurn took strays)
  | selfTest : s.Event s.endSelfTest
  | ticks : s.Event s.tick
  | clock : s.Event
      { s with bootClock := s.bootClock + 1,
               window := { s.window with toTick := s.window.toTick.map fun n => n - 1 } }
  | cold (cause : ColdCause) : s.Event (s.coldReset cause)
  | warm (low : Bool) (cause : ResetCause) : s.Event (State.warmReset { s with resetNLow := low } cause)
  | falls (held : s.supplyLow = true) : s.Event { s with resetNLow := true }
  | rises (held : s.resetNLow = true) :
      s.Event { s with resetNLow := false, selfTest := !s.supplyLow }

/-- Events and changes of the links, one after another. -/
inductive State.Moves : State → State → Prop
  | links {s t : State} : s.SameBody t → s.Moves t
  | event {s t : State} : s.Event t → s.Moves t
  | trans {s t u : State} : s.Moves t → t.Moves u → s.Moves u

/-- What every event and every change of the links keeps, every move keeps. -/
theorem State.Moves.keeps {P : State → Prop} (links : ∀ {s t : State}, s.SameBody t → P s → P t)
    (event : ∀ {s t : State}, s.Event t → P s → P t) {s t : State} (h : s.Moves t) : P s → P t := by
  induction h with
  | links h => exact links h
  | event h => exact event h
  | trans _ _ ih1 ih2 => exact fun p => ih2 (ih1 p)

theorem State.Moves.refl (s : State) : s.Moves s := .links (.refl s)

/-! ### Changes of the links -/

theorem State.onLink_sameBody (s : State) (l : Link) (f : LinkState → LinkState) :
    s.SameBody (s.onLink l f) := by
  cases l <;> exact ⟨_, _, _, _, _, _, _, rfl⟩

theorem State.commit_sameBody (s : State) : s.SameBody s.commit := ⟨_, _, _, _, _, _, _, rfl⟩

theorem State.spendWindow_sameBody (s : State) (l : Link) : s.SameBody (s.spendWindow l) := by
  cases l <;> exact ⟨_, _, _, _, _, _, _, rfl⟩

theorem State.windowFalls_sameBody (s : State) : s.SameBody s.windowFalls := ⟨_, _, _, _, _, _, _, rfl⟩

theorem State.frameWindow_sameBody (s : State) : s.SameBody s.frameWindow := by
  unfold State.frameWindow
  split
  · exact s.windowFalls_sameBody
  · exact .refl s

theorem State.linkError_sameBody (s : State) (l : Link) : s.SameBody (s.linkError l) :=
  s.onLink_sameBody l fun x => x.raise .linkError

theorem State.hunt_sameBody (s : State) (l : Link) : s.SameBody (s.hunt l) :=
  s.onLink_sameBody l fun x => { x with rx := .hunting }

theorem State.putReply_sameBody (s : State) (l : Link) (r : Reply) : s.SameBody (s.putReply l r) :=
  s.onLink_sameBody l fun x => { x with ordinary := some r }

theorem State.abandon_sameBody (s : State) (l : Link) : s.SameBody (s.abandon l) :=
  (s.hunt_sameBody l).trans (State.linkError_sameBody _ l)

theorem State.holdFrame_sameBody (s : State) (f : Frame) : s.SameBody (s.holdFrame f) := by
  unfold State.holdFrame
  split <;> exact s.onLink_sameBody .e _

/-- An idle step moves the links alone. -/
theorem State.idle_sameBody (s : State) : s.SameBody s.idle := by
  have heard : s.SameBody { s.receive with freeCount := s.freeCount + 1 } := by
    rcases s.receive_cases with e | ⟨-, -, -, e⟩ <;> rw [e] <;> exact ⟨_, _, _, _, _, _, _, rfl⟩
  rcases s.idle_cases with e | ⟨-, e⟩ | ⟨-, -, e⟩ <;> rw [e] <;>
    exact heard.trans ⟨_, _, _, _, _, _, _, rfl⟩

/-! ### Requests -/

/-- A handler leaves the part as it was, or does what a request can do. -/
def Handler.Served (h : Handler) : Prop := ∀ l f s, (h l f s).1 = s ∨ s.Serves (h l f s).1

theorem State.namedClaim_spec {s : State} {payload : List Byte} {x : Fin 4} {c : Claim}
    (h : s.namedClaim payload = some (x, c)) : s.ctxs[x] = some c := by
  unfold State.namedClaim at h
  split at h
  · split at h
    · split at h
      · cases h; assumption
      · cases h
    · cases h
  · cases h

theorem manDataRefusal_none {x : Slot} {offset : Nat} {data : List Byte}
    (h : manDataRefusal x offset data = none) :
    x.state = .loading ∧ 1 ≤ data.length ∧ data.length ≤ 1024 ∧ offset = x.buffer.length ∧
      offset + data.length ≤ maxManifest := by
  unfold manDataRefusal at h
  split at h
  · cases h
  · split at h
    · cases h
    · split at h
      · cases h
      · split at h
        · cases h
        · refine ⟨?_, ?_, ?_, ?_, ?_⟩ <;> first | omega | simp_all

theorem State.advance_serves {s : State} (l : Link) (i : Fin 12) (c : Fin 8) (epoch : Nat)
    (mode : s.mode ≠ .startup) (idle : s.fusesIdle = true) :
    (s.advance l i c epoch).1 = s ∨ s.Serves (s.advance l i c epoch).1 := by
  simp only [State.advance]
  split
  · exact .inl rfl
  · exact .inr (.starts _ mode idle)

theorem State.slotMode_spec {s : State} (h : (!s.slotMode) ≠ true) :
    s.mode = .verify ∨ s.mode = .settled := by
  simpa [State.slotMode, or_iff_not_imp_left] using h

theorem State.slotMode_ne {s : State} (h : (!s.slotMode) ≠ true) : s.mode ≠ .startup := by
  rcases State.slotMode_spec h with m | m <;> simp [m]

theorem takeSlotOpen_served : Handler.Served takeSlotOpen := by
  intro l f s
  unfold takeSlotOpen
  split
  · exact .inl rfl
  next mode =>
    split
    · exact .inl rfl
    next c _ =>
      split
      · exact .inl rfl
      next accepted =>
        split
        · exact .inl rfl
        next i slot => exact .inr (.opens c l i (not_not.1 mode) accepted slot)

theorem takeManData_served : Handler.Served takeManData := by
  intro l f s
  simp only [takeManData]
  split
  · exact .inl rfl
  · split
    · exact .inl rfl
    next i _ =>
      split
      · exact .inl rfl
      · split
        · exact .inl rfl
        next accepted =>
          obtain ⟨state, -, -, rfl', fits⟩ := manDataRefusal_none accepted
          exact .inr (.appends i _ state (by rw [← rfl']; exact fits))

theorem takeManClose_served : Handler.Served takeManClose := by
  intro l f s
  simp only [takeManClose]
  split
  · exact .inl rfl
  · split
    · exact .inl rfl
    next i _ =>
      split
      · exact .inl rfl
      · split
        · exact .inl rfl
        next state =>
          simp only [State.closeManifest]
          split
          next e _ => exact .inr (.rejects i e (not_not.1 state))
          next p good =>
            split
            next room => exact .inr (.checks i _ p (not_not.1 state) good room)
            · exact .inl rfl

theorem takeSlotDrop_served : Handler.Served takeSlotDrop := by
  intro l f s
  simp only [takeSlotDrop]
  split
  · exact .inl rfl
  · split
    · exact .inl rfl
    next i _ =>
      split
      · exact .inl rfl
      · split
        · exact .inl rfl
        next state => exact .inr (.drops i state)

theorem takeSegOpen_served : Handler.Served takeSegOpen := by
  intro l f s
  simp only [takeSegOpen]
  split
  · exact .inl rfl
  · split
    · exact .inl rfl
    next i _ =>
      split
      · exact .inl rfl
      · split
        · exact .inl rfl
        next state =>
          split
          · exact .inl rfl
          next p parsed =>
            simp only [State.openSegment]
            split
            · exact .inl rfl
            next accepted =>
              split
              · exact .inl rfl
              next x ctx => exact .inr (.claims i p _ x (by tauto) parsed accepted ctx)

theorem takeSegData_served : Handler.Served takeSegData := by
  intro l f s
  simp only [takeSegData]
  split
  · exact .inl rfl
  · split
    · exact .inl rfl
    next x c named =>
      split
      · exact .inl rfl
      · split
        · exact .inl rfl
        · split
          · exact .inl rfl
          next room => exact .inr (.queues x c _ (State.namedClaim_spec named) (not_le.1 room))

theorem takeSegClose_served : Handler.Served takeSegClose := by
  intro l f s
  simp only [takeSegClose]
  split
  · exact .inl rfl
  · split
    · exact .inl rfl
    next x c named =>
      split
      · exact .inl rfl
      · split
        · exact .inl rfl
        · split
          · exact .inl rfl
          · exact .inr (.closes x c (State.namedClaim_spec named))

theorem takeClassDecline_served : Handler.Served takeClassDecline := by
  intro l f s
  unfold takeClassDecline
  split
  · exact .inl rfl
  next mode =>
    split
    · exact .inl rfl
    next c _ =>
      split
      · exact .inl rfl
      next accepted => exact .inr (.declines c (not_not.1 mode) accepted)

theorem takeWindowExtend_served : Handler.Served takeWindowExtend := by
  intro l f s
  unfold takeWindowExtend
  split
  · exact .inl rfl
  next mode =>
    split
    · exact .inl rfl
    · exact .inr (.reloads (not_not.1 mode))

theorem takeFloorAdvance_served : Handler.Served takeFloorAdvance := by
  intro l f s
  simp only [takeFloorAdvance]
  split
  · exact .inl rfl
  next mode =>
    split
    · exact .inl rfl
    next i _ =>
      split
      · exact .inl rfl
      · split
        · exact .inl rfl
        next accepted =>
          have idle : s.fusesIdle = true := by
            unfold State.advanceRefusal at accepted
            split at accepted
            · cases accepted
            · split at accepted
              · cases accepted
              · split at accepted
                · cases accepted
                next idle => simpa using idle
          exact State.advance_serves l i _ _ (State.slotMode_ne mode) idle

theorem takeKeyRevoke_served : Handler.Served takeKeyRevoke := by
  intro l f s
  unfold takeKeyRevoke
  split
  · exact .inl rfl
  next mode =>
    split
    · exact .inl rfl
    next target _ =>
      split
      · exact .inl rfl
      · split
        · exact .inl rfl
        next signer _ =>
          split
          · exact .inl rfl
          next idle =>
            split
            · exact .inl rfl
            next room =>
              exact .inr (.notices l target signer _ (State.slotMode_spec mode) (by simpa using idle)
                (by simpa using room))

theorem takeKeyEnroll_served : Handler.Served takeKeyEnroll := by
  intro l f s
  unfold takeKeyEnroll
  split
  · exact .inl rfl
  next mode =>
    split
    · exact .inl rfl
    · split
      · exact .inl rfl
      · split
        · exact .inl rfl
        · split
          · exact .inl rfl
          next idle =>
            exact .inr (.starts _ (by simp [not_not.1 mode]) (by simpa using idle))

theorem takePolicySet_served : Handler.Served takePolicySet := by
  intro l f s
  unfold takePolicySet
  split
  · exact .inl rfl
  · split
    · exact .inl rfl
    · split
      · exact .inl rfl
      · split
        · exact .inl rfl
        · exact .inr (.stages _)

theorem takeProvisionClose_served : Handler.Served takeProvisionClose := by
  intro l f s
  unfold takeProvisionClose
  split
  · exact .inl rfl
  next mode =>
    split
    · exact .inl rfl
    · split
      · exact .inl rfl
      · split
        · exact .inl rfl
        next idle =>
          exact .inr (.starts _ (by simp [not_not.1 mode]) (by simpa using idle))

/-- A handler that leaves the part as it is, on every path. -/
theorem takeFaultRead_served : Handler.Served takeFaultRead := by
  intro l f s
  unfold takeFaultRead
  split <;> exact .inl rfl

theorem takeSlotQuery_served : Handler.Served takeSlotQuery := by
  intro l f s
  unfold takeSlotQuery
  split
  · exact .inl rfl
  · split <;> exact .inl rfl

theorem takeKeyQuery_served : Handler.Served takeKeyQuery := by
  intro l f s
  unfold takeKeyQuery
  split <;> exact .inl rfl

theorem takePolicyGet_served : Handler.Served takePolicyGet := by
  intro l f s
  unfold takePolicyGet
  split
  · exact .inl rfl
  · split
    · exact .inl rfl
    · split <;> exact .inl rfl

/-- The kinds whose requests act on the requesting link or on a pending RESTART (R152, R162 to R165). -/
def actsOnLink : Kind → Bool
  | .eventMask | .eventClear | .wait | .restart => true
  | _ => false

/-- Every other kind's handler leaves the part as it was, or does what a request can do. -/
theorem handlerOf_served {k : Kind} (h : actsOnLink k = false) : (handlerOf k).Served := by
  cases k with
  | identify => exact fun _ _ _ => .inl rfl
  | status => exact fun _ _ _ => .inl rfl
  | eventMask => cases h
  | eventClear => cases h
  | wait => cases h
  | slotOpen => exact takeSlotOpen_served
  | manData => exact takeManData_served
  | manClose => exact takeManClose_served
  | segOpen => exact takeSegOpen_served
  | segData => exact takeSegData_served
  | segClose => exact takeSegClose_served
  | slotQuery => exact takeSlotQuery_served
  | slotDrop => exact takeSlotDrop_served
  | classDecline => exact takeClassDecline_served
  | windowExtend => exact takeWindowExtend_served
  | floorAdvance => exact takeFloorAdvance_served
  | keyQuery => exact takeKeyQuery_served
  | keyRevoke => exact takeKeyRevoke_served
  | keyEnroll => exact takeKeyEnroll_served
  | policySet => exact takePolicySet_served
  | policyGet => exact takePolicyGet_served
  | provisionClose => exact takeProvisionClose_served
  | faultRead => exact takeFaultRead_served
  | restart => cases h

theorem takeWait_sameBody (l : Link) (f : Frame) (s : State) : s.SameBody (takeWait l f s).1 := by
  simp only [takeWait]
  split
  · exact .refl s
  · split
    · exact .refl s
    · split
      · exact s.onLink_sameBody l fun x => { x with parked := some ⟨maskOperand f.payload, f.tag⟩ }
      · exact s.onLink_sameBody l fun x => { x with waitReply := some (waitAnswer f.tag x.flags) }

/-- The handlers of the kinds that act on a link change the links, or a pending RESTART, alone. -/
theorem handlerOf_sameBody {k : Kind} (h : actsOnLink k = true) (l : Link) (f : Frame) (s : State) :
    s.SameBody (handlerOf k l f s).1 := by
  cases k with
  | eventMask => cases l <;> exact ⟨_, _, _, _, _, _, _, rfl⟩
  | eventClear => cases l <;> exact ⟨_, _, _, _, _, _, _, rfl⟩
  | wait => exact takeWait_sameBody l f s
  | restart => cases l <;> exact ⟨_, _, _, _, _, _, _, rfl⟩
  | _ => cases h

theorem handlerOf_moves (k : Kind) (l : Link) (f : Frame) (s : State) :
    s.Moves (handlerOf k l f s).1 := by
  cases h : actsOnLink k with
  | true => exact .links (handlerOf_sameBody h l f s)
  | false =>
    rcases handlerOf_served h l f s with e | served
    · rw [e]; exact .refl s
    · exact .event (.serves served)

theorem State.answer_moves {s : State} (l : Link) (f : Frame) {served : Served}
    (h : s.Moves served.1) : s.Moves (State.answer l f served) := by
  unfold State.answer
  split
  · exact h.trans (.links (State.putReply_sameBody _ l _))
  · exact h

theorem State.badCrc_moves (s : State) (l : Link) (f : Frame) : s.Moves (s.badCrc l f) :=
  .links ((s.linkError_sameBody l).trans (State.putReply_sameBody _ l _))

theorem takeRequest_moves (k : Kind) (l : Link) (f : Frame) (s : State) :
    s.Moves (takeRequest k (handlerOf k) l f s) := by
  unfold takeRequest
  split
  · exact s.badCrc_moves l f
  · split
    · exact State.answer_moves l f (.refl s)
    · exact State.answer_moves l f (handlerOf_moves k l f s)

theorem takeFrame_moves (l : Link) (f : Frame) (s : State) : s.Moves (takeFrame l f s) := by
  unfold takeFrame
  split
  · exact takeRequest_moves _ l f s
  · split
    · exact s.badCrc_moves l f
    · exact State.answer_moves l f (.refl s)

/-! ### Arrivals and replies -/

theorem State.warmReset_moves (s : State) (cause : ResetCause) : s.Moves (s.warmReset cause) :=
  .event (.warm s.resetNLow cause)

theorem State.removeUnread_moves (s : State) : s.Moves s.removeUnread := by
  have removed : s.SameBody ((s.onLink .m LinkState.emptyOrdinary).linkError .m) :=
    (s.onLink_sameBody .m LinkState.emptyOrdinary).trans (State.linkError_sameBody _ .m)
  simp only [State.removeUnread]
  split
  · exact .trans (.links removed) (State.warmReset_moves _ _)
  · exact .links removed

theorem State.sync_moves (s : State) : s.Moves s.sync := by
  have synced : s.SameBody (({ s with spi := .request } : State).onLink .m fun x =>
      { x with rx := .assembling [0xA5] }) := ⟨_, _, _, _, _, _, _, rfl⟩
  simp only [State.sync]
  split
  · exact .trans (.links synced) (State.removeUnread_moves _)
  · exact .links synced

theorem State.windowSync_moves (s : State) : s.Moves s.windowSync := by
  unfold State.windowSync
  split
  · exact s.sync_moves.trans (.links (State.commit_sameBody _))
  · exact .refl s

/-- The window in which a SYNC completes: the one that has begun, or one that begins now (R173, R174). -/
def State.syncWindow (s : State) : State :=
  match s.spi with
  | .begun _ => s
  | _ => s.windowFalls

theorem State.syncWindow_sameBody (s : State) : s.SameBody s.syncWindow := by
  unfold State.syncWindow
  split
  · exact .refl s
  · exact s.windowFalls_sameBody

/-- All that REPLY_REMOVED_UNREAD can do (R151, R173, R174). -/
theorem State.windowBegins_cases (s : State) :
    (s.assembling = true ∧ s.windowBegins = s) ∨
    (s.assembling = false ∧ (s.syncWindow.windowIgnored = true ∨ s.syncWindow.deaf = true) ∧
      s.windowBegins = { s.syncWindow with spi := .request, windowIgnored := true }) ∨
    (s.assembling = false ∧ s.syncWindow.windowIgnored = false ∧ s.syncWindow.deaf = false ∧
      s.windowBegins = s.syncWindow.sync) := by
  have begins : s.windowBegins = if s.assembling then s else
      if s.syncWindow.windowIgnored || s.syncWindow.deaf then
        { s.syncWindow with spi := .request, windowIgnored := true }
      else s.syncWindow.sync := rfl
  rw [begins]
  cases s.assembling <;> cases s.syncWindow.windowIgnored <;> cases s.syncWindow.deaf <;> simp

theorem State.windowBegins_moves (s : State) : s.Moves s.windowBegins := by
  have begun := State.Moves.links s.syncWindow_sameBody
  rcases s.windowBegins_cases with ⟨-, e⟩ | ⟨-, -, e⟩ | ⟨-, -, -, e⟩ <;> rw [e]
  · exact .refl s
  · exact begun.trans (.links ⟨_, _, _, _, _, _, _, rfl⟩)
  · exact begun.trans (State.sync_moves _)

theorem State.inWindow_moves (s : State) {rest : State → State} (h : ∀ t : State, t.Moves (rest t)) :
    s.Moves (s.inWindow rest) := by
  have falls := State.Moves.links s.frameWindow_sameBody
  have syncs := falls.trans s.frameWindow.windowSync_moves
  have taken := syncs.trans (.links ((State.hunt_sameBody _ .m).trans (State.spendWindow_sameBody _ .m)))
  rcases s.inWindow_cases rest with ⟨-, e⟩ | ⟨-, -, e⟩ <;> simp only [e]
  · exact falls.trans (.links ⟨_, _, _, _, _, _, _, rfl⟩)
  · split
    · exact syncs.trans (.links ⟨_, _, _, _, _, _, _, rfl⟩)
    · split
      · exact taken
      · exact taken.trans (h _)

theorem State.arrive_moves (s : State) (l : Link) {take : State → State}
    (h : ∀ t : State, t.Moves (take t)) (f : Frame) : s.Moves (s.arrive l take f) := by
  cases l with
  | m =>
    have taken (t : State) : t.Moves (if lenOk (frameLen f) then take t else t.abandon .m) := by
      split
      · exact h t
      · exact .links (t.abandon_sameBody .m)
    exact s.inWindow_moves taken
  | e =>
    simp only [State.arrive, State.arriveE]
    split
    · exact .refl s
    · split
      · split
        · exact .trans (.links (s.hunt_sameBody .e)) (h _)
        · exact .links ((s.hunt_sameBody .e).trans (State.holdFrame_sameBody _ f))
      · exact .links (s.abandon_sameBody .e)

theorem drainHeld_moves (n : Nat) : ∀ s : State, s.Moves (drainHeld n s) := by
  induction n with
  | zero => exact State.Moves.refl
  | succ n ih =>
    intro s
    unfold drainHeld
    split
    · exact .refl s
    · split
      · exact .refl s
      next f rest _ =>
        have taken := (State.Moves.links (s.onLink_sameBody .e fun x => { x with held := rest })).trans
          (takeFrame_moves .e f _)
        exact (taken.trans (.links (State.commit_sameBody _))).trans (ih _)

theorem State.ordinaryLeft_moves (s : State) (l : Link) : s.Moves (s.ordinaryLeft l) := by
  have left := State.Moves.links (s.onLink_sameBody l LinkState.emptyOrdinary)
  cases l with
  | m =>
    simp only [State.ordinaryLeft]
    split
    · exact left.trans (State.warmReset_moves _ _)
    · exact left
  | e => exact left.trans (drainHeld_moves _ _)

theorem State.replyLeaves_moves (s : State) (l : Link) : s.Moves (s.replyLeaves l) := by
  have spent := State.Moves.links (s.spendWindow_sameBody l)
  unfold State.replyLeaves
  split
  · exact .refl s
  · split
    · exact .refl s
    · exact spent.trans (State.ordinaryLeft_moves _ l)
    · exact spent.trans (.links (State.onLink_sameBody _ l _))

theorem State.frameAbandoned_moves (s : State) (l : Link) (cause : AbandonCause) :
    s.Moves (s.frameAbandoned l cause) := by
  unfold State.frameAbandoned
  split
  · exact .refl s
  · cases l with
    | e =>
      simp only []
      split
      · exact .links (s.abandon_sameBody .e)
      · exact .refl s
    | m =>
      have ended := s.inWindow_moves fun t => .links (t.abandon_sameBody .m)
      simp only []
      split
      · exact ended.trans (.links ⟨_, _, _, _, _, _, _, rfl⟩)
      · exact ended

/-! ### The time base and the pins -/

theorem State.expiryTick_moves (s : State) : s.Moves s.expiryTick := by
  rcases s.expiryTick_cases with ⟨-, e⟩ | ⟨due, zero, e⟩ <;> rw [e]
  · exact .refl s
  · have ticked : s.tick = s.expire := by simp [State.tick, due, zero]
    exact ticked ▸ .event .ticks

theorem State.clockRises_moves (s : State) : s.Moves s.clockRises := by
  simp only [State.clockRises]
  split
  · exact .refl s
  · split
    · exact ((State.Moves.event .ticks).trans (.links (State.commit_sameBody _))).trans (.event .clock)
    · exact .event .clock

theorem State.resetFalls_moves (s : State) : s.Moves s.resetFalls := by
  unfold State.resetFalls
  split
  · exact .refl s
  · split
    next low => exact .event (.falls low)
    · exact .event (.warm true .pin)

theorem State.resetRises_moves (s : State) : s.Moves s.resetRises := by
  unfold State.resetRises
  split
  next low => exact .event (.rises low)
  · exact .refl s

theorem State.supplyRecovers_moves (s : State) : s.Moves s.supplyRecovers := by
  unfold State.supplyRecovers
  split
  · exact .event (.cold .powerOn)
  · exact .refl s

theorem State.gapTimeout_sameBody (s : State) : s.SameBody s.gapTimeout := by
  unfold State.gapTimeout
  split
  · exact s.abandon_sameBody .e
  · exact .refl s

theorem State.stopBitLow_sameBody (s : State) : s.SameBody s.stopBitLow := by
  unfold State.stopBitLow
  split
  · exact .refl s
  · exact s.linkError_sameBody .e

/-! ### Every command -/

/-- A request is the arrival of its frame, and the close of the event. -/
theorem exec_requestCommand (l : Link) (k : Kind) (q : Request) (s : State) :
    exec (requestCommand l k q) s = .next (s.request k (handlerOf k) l q) := by
  cases k <;> rfl

/-- Every command answers the close of an event that moves the part. -/
theorem exec_moves (c : Instr) (s : State) : ∃ u : State, exec c s = .next u.commit ∧ s.Moves u := by
  have requested (k : Kind) (l : Link) (q : Request) :
      ∃ u : State, exec (requestCommand l k q) s = .next u.commit ∧ s.Moves u :=
    ⟨_, exec_requestCommand l k q s, s.arrive_moves l (takeRequest_moves k l _) _⟩
  cases c with
  | identify l q => exact requested .identify l q
  | status l q => exact requested .status l q
  | eventMask l q => exact requested .eventMask l q
  | eventClear l q => exact requested .eventClear l q
  | wait l q => exact requested .wait l q
  | slotOpen l q => exact requested .slotOpen l q
  | manData l q => exact requested .manData l q
  | manClose l q => exact requested .manClose l q
  | segOpen l q => exact requested .segOpen l q
  | segData l q => exact requested .segData l q
  | segClose l q => exact requested .segClose l q
  | slotQuery l q => exact requested .slotQuery l q
  | slotDrop l q => exact requested .slotDrop l q
  | classDecline l q => exact requested .classDecline l q
  | windowExtend l q => exact requested .windowExtend l q
  | floorAdvance l q => exact requested .floorAdvance l q
  | keyQuery l q => exact requested .keyQuery l q
  | keyRevoke l q => exact requested .keyRevoke l q
  | keyEnroll l q => exact requested .keyEnroll l q
  | policySet l q => exact requested .policySet l q
  | policyGet l q => exact requested .policyGet l q
  | provisionClose l q => exact requested .provisionClose l q
  | faultRead l q => exact requested .faultRead l q
  | restart l q => exact requested .restart l q
  | chunkDigested => exact ⟨_, rfl, .event .chunk⟩
  | manifestJobEnd => exact ⟨_, rfl, .event .manifestJob⟩
  | revokeJobEnd => exact ⟨_, rfl, .event .revokeJob⟩
  | fuseBurnComplete took strays => exact ⟨_, rfl, .event (.burn took strays)⟩
  | selftestComplete => exact ⟨_, rfl, .event .selfTest⟩
  | bootWindowTick => exact ⟨_, rfl, .event .ticks⟩
  | bootWindowExpiry => exact ⟨_, rfl, s.expiryTick_moves⟩
  | coldReset cause => exact ⟨_, rfl, .event (.cold cause)⟩
  | resetNFall => exact ⟨_, rfl, s.resetFalls_moves⟩
  | resetNRise => exact ⟨_, rfl, s.resetRises_moves⟩
  | frameHeld f => exact ⟨_, rfl, s.arrive_moves .e (takeFrame_moves .e f) f⟩
  | frameAbandoned l cause => exact ⟨_, rfl, s.frameAbandoned_moves l cause⟩
  | frameGapTimeout => exact ⟨_, rfl, .links s.gapTimeout_sameBody⟩
  | replyLeft l => exact ⟨_, rfl, s.replyLeaves_moves l⟩
  | replyRemovedUnread => exact ⟨_, rfl, s.windowBegins_moves⟩
  | supplyRecovered => exact ⟨_, rfl, s.supplyRecovers_moves⟩
  | stopBitLowWhileHunting => exact ⟨_, rfl, .links s.stopBitLow_sameBody⟩
  | badKindFrame l f => exact ⟨_, rfl, s.arrive_moves l (takeFrame_moves l f) f⟩
  | bootClockMicrosecond => exact ⟨_, rfl, s.clockRises_moves⟩

/-- Every step moves the part, once the command that it takes has left the queue. -/
theorem step_moves {s t : State} (h : step s = .next t) :
    ∃ rest, ({ s with pending := rest } : State).Moves t := by
  unfold step at h
  split at h
  next empty =>
    cases h
    exact ⟨[], by simpa [← empty] using State.Moves.links s.idle_sameBody⟩
  next c rest _ =>
    obtain ⟨u, e, moves⟩ := exec_moves c { s with pending := rest }
    rw [e] at h
    cases h
    exact ⟨rest, moves.trans (.links u.commit_sameBody)⟩

end Sys2Proof.Machine
end

section
/-! SUPPORT. What the ends of slots' work, classes and lines leave as it was: the units' operations, the
fuses, the ROM and the levels at the pins. -/

namespace Sys2Proof.Machine

/-- States that differ in the image table, the waiting work, the classes, the lines, the verdict, the timer,
the fault records and the links alone. -/
def State.SameUnits (s t : State) : Prop :=
  ∃ mode verdict failed slots ctxs chunks jobs classes lines window m e faults,
    t = { s with mode := mode, verdict := verdict, failedCount := failed, slots := slots, ctxs := ctxs,
                 chunkQueue := chunks, jobs := jobs, classes := classes, lines := lines,
                 window := window, linkM := m, linkE := e, faults := faults }

theorem State.SameUnits.refl (s : State) : s.SameUnits s := ⟨_, _, _, _, _, _, _, _, _, _, _, _, _, rfl⟩

theorem State.SameUnits.trans {s t u : State} (h : s.SameUnits t) (k : t.SameUnits u) :
    s.SameUnits u := by
  obtain ⟨_, _, _, _, _, _, _, _, _, _, _, _, _, rfl⟩ := h
  obtain ⟨_, _, _, _, _, _, _, _, _, _, _, _, _, rfl⟩ := k
  exact ⟨_, _, _, _, _, _, _, _, _, _, _, _, _, rfl⟩

theorem State.post_sameUnits (s : State) (f : EventFlag) : s.SameUnits (s.post f) :=
  ⟨_, _, _, _, _, _, _, _, _, _, _, _, _, rfl⟩

theorem State.recordFault_sameUnits (s : State) (r : FaultRecord) : s.SameUnits (s.recordFault r) :=
  ⟨_, _, _, _, _, _, _, _, _, _, _, _, _, rfl⟩

theorem State.setSlot_sameUnits (s : State) (i : Fin 12) (x : Slot) : s.SameUnits (s.setSlot i x) :=
  ⟨_, _, _, _, _, _, _, _, _, _, _, _, _, rfl⟩

theorem State.setCtx_sameUnits (s : State) (x : Fin 4) (c : Option Claim) : s.SameUnits (s.setCtx x c) :=
  ⟨_, _, _, _, _, _, _, _, _, _, _, _, _, rfl⟩

theorem State.setClass_sameUnits (s : State) (c : Fin 8) (x : ClassRec) :
    s.SameUnits (s.setClass c x) :=
  ⟨_, _, _, _, _, _, _, _, _, _, _, _, _, rfl⟩

theorem State.release_sameUnits (s : State) (i : Fin 12) : s.SameUnits (s.release i) :=
  ⟨_, _, _, _, _, _, _, _, _, _, _, _, _, rfl⟩

theorem State.reject_sameUnits (s : State) (i : Fin 12) (r : FaultCode) (g : Option Byte)
    (k : Option (Fin 10)) (d : List Byte) : s.SameUnits (s.reject i r g k d) := by
  simp only [State.reject]
  refine .trans ?_ (State.post_sameUnits _ _)
  refine .trans ?_ (State.recordFault_sameUnits _ _)
  refine .trans ?_ (State.setSlot_sameUnits _ i _)
  split
  · exact s.release_sameUnits i
  · exact .refl s

theorem State.rejectAll_sameUnits (s : State) (ns : List (Fin 12)) (r : FaultCode)
    (k : Option (Fin 10)) : s.SameUnits (s.rejectAll ns r k) := by
  unfold State.rejectAll
  induction ns generalizing s with
  | nil => exact .refl s
  | cons i ns ih => exact (s.reject_sameUnits i r none k []).trans (ih _)

theorem State.moveLines_sameUnits (s : State) (v : Vector LineRec 6) : s.SameUnits (s.moveLines v) := by
  unfold State.moveLines
  split
  · exact .refl s
  · exact ⟨_, _, _, _, _, _, _, _, _, _, _, _, _, rfl⟩

theorem State.moveClasses_sameUnits (s : State) (v : Vector ClassRec 8) :
    s.SameUnits (s.moveClasses v) := by
  unfold State.moveClasses
  split
  · exact .refl s
  · exact ⟨_, _, _, _, _, _, _, _, _, _, _, _, _, rfl⟩

theorem State.settleIfDecided_sameUnits (s : State) : s.SameUnits s.settleIfDecided := by
  unfold State.settleIfDecided
  split
  · simp only [State.settle]
    refine .trans ?_ (State.post_sameUnits _ _)
    exact .trans ⟨_, _, _, _, _, _, _, _, _, _, _, _, _, rfl⟩ (State.rejectAll_sameUnits _ _ _ _)
  · exact .refl s

theorem State.gate_sameUnits (s : State) : s.SameUnits s.gate :=
  (s.moveLines_sameUnits _).trans (State.settleIfDecided_sameUnits _)

theorem State.closeExhausted_sameUnits (b s : State) : s.SameUnits (b.closeExhausted s) := by
  unfold State.closeExhausted
  split
  · exact ⟨_, _, _, _, _, _, _, _, _, _, _, _, _, rfl⟩
  · exact .refl s

theorem State.conclude_sameUnits (b s : State) : s.SameUnits (b.conclude s) := by
  simp only [State.conclude]
  split
  · exact (b.closeExhausted_sameUnits s).trans (State.gate_sameUnits _)
  · exact b.closeExhausted_sameUnits s

theorem State.verifySlot_sameUnits (s : State) (i : Fin 12) : s.SameUnits (s.verifySlot i) := by
  have verified := (s.setSlot_sameUnits i { s.slots[i] with state := .verified, sig := .passed }).trans
    (State.post_sameUnits _ .slotDone)
  simp only [State.verifySlot]
  split
  · exact verified
  · refine .trans ?_ (State.post_sameUnits _ _)
    exact (verified.trans (State.setClass_sameUnits _ _ _)).trans (State.rejectAll_sameUnits _ _ _ _)

theorem State.jobReport_sameUnits (s : State) (i : Fin 12) (g : Byte) (r : JobResult) :
    s.SameUnits (s.jobReport i g r) := by
  unfold State.jobReport
  split
  · cases r with
    | pass =>
      simp only []
      split
      · exact s.verifySlot_sameUnits i
      · exact s.setSlot_sameUnits i _
    | fail => exact .trans (s.setSlot_sameUnits i _) (State.reject_sameUnits _ _ _ _ _ _)
    | keyRevokedAtStart => exact s.reject_sameUnits _ _ _ _ _
  · exact .refl s

theorem endAtStart_sameUnits (n : Nat) : ∀ s : State, s.SameUnits (endAtStart n s) := by
  induction n with
  | zero => exact State.SameUnits.refl
  | succ n ih =>
    intro s
    unfold endAtStart
    split
    · split
      · exact .trans (.trans ⟨_, _, _, _, _, _, _, _, _, _, _, _, _, rfl⟩
          (State.jobReport_sameUnits _ _ _ _)) (ih _)
      · exact .refl s
    · exact .refl s

theorem State.endStarts_sameUnits (s : State) : s.SameUnits s.endStarts := endAtStart_sameUnits _ s

theorem State.segmentMatch_sameUnits (s : State) (x : Fin 4) (c : Claim) :
    s.SameUnits (s.segmentMatch x c) := by
  simp only [State.segmentMatch]
  split
  · split
    · exact (State.setSlot_sameUnits _ _ _).trans
        ((State.verifySlot_sameUnits _ _).trans (State.conclude_sameUnits _ _))
    · exact State.setSlot_sameUnits _ _ _
  · exact .refl s

theorem State.completeCtx_sameUnits (s : State) (x : Fin 4) (c : Claim) :
    s.SameUnits (s.completeCtx x c) := by
  simp only [State.completeCtx]
  refine (s.setCtx_sameUnits x none).trans ?_
  split
  · exact State.segmentMatch_sameUnits _ _ _
  · unfold State.segmentMismatch
    split
    · exact (State.reject_sameUnits _ _ _ _ _ _).trans (State.conclude_sameUnits _ _)
    · exact .refl _

theorem State.decline_sameUnits (s : State) (c : Fin 8) : s.SameUnits (s.decline c) :=
  (s.setClass_sameUnits c _).trans ((State.rejectAll_sameUnits _ _ _ _).trans
    ((State.post_sameUnits _ _).trans (State.gate_sameUnits _)))

theorem State.drop_sameUnits (s : State) (i : Fin 12) : s.SameUnits (s.drop i) := by
  simp only [State.drop]
  split
  · exact .refl s
  · split
    · exact (s.release_sameUnits i).trans ((State.setSlot_sameUnits _ i _).trans
        (State.conclude_sameUnits _ _))
    · exact s.setSlot_sameUnits i _

theorem State.setCount_sameUnits (s : State) (w : Window) (count : Nat) :
    s.SameUnits (s.setCount w count) := by
  simp only [State.setCount]
  split <;> exact ⟨_, _, _, _, _, _, _, _, _, _, _, _, _, rfl⟩

theorem State.expire_sameUnits (s : State) : s.SameUnits s.expire := by
  have fault : s.SameUnits ((({ s with window := s.window.stop } : State).recordFault
      (faultOf .windowExpired [byteOf s.window.extUsed, byteOf s.window.reload,
        byteOf s.window.prescale])).post .windowExpired) :=
    ⟨_, _, _, _, _, _, _, _, _, _, _, _, _, rfl⟩
  exact fault.trans ((State.rejectAll_sameUnits _ _ _ _).trans
    ((State.moveClasses_sameUnits _ _).trans
      ((State.moveLines_sameUnits _ _).trans (State.settleIfDecided_sameUnits _))))

theorem State.tick_sameUnits (s : State) : s.SameUnits s.tick := by
  rcases s.tick_cases with ⟨-, e⟩ | ⟨-, -, e⟩ | ⟨-, -, e⟩ <;> rw [e]
  · exact .refl s
  · exact s.expire_sameUnits
  · exact s.setCount_sameUnits _ _

theorem State.rejectBound_sameUnits (s : State) (k : Fin 10) : s.SameUnits (s.rejectBound k) :=
  (s.rejectAll_sameUnits _ _ _).trans (State.conclude_sameUnits _ _)

end Sys2Proof.Machine
end

section
/-! SUPPORT. Fuses are one-way: what a burn, a reset and every other event make of the array (R89, R95). -/

namespace Sys2Proof.Machine

theorem Fuses.Keeps.refl (f : Fuses) : f.Keeps f :=
  ⟨fun _ _ h => h, fun _ h => h, fun _ _ h => h, fun _ h => h⟩

theorem Fuses.Keeps.trans {f g h : Fuses} (a : f.Keeps g) (b : g.Keeps h) : f.Keeps h :=
  ⟨fun c i k => b.floors c i (a.floors c i k), fun i k => b.revoke i (a.revoke i k),
    fun e i k => b.entries e i (a.entries e i k), fun i k => b.closing i (a.closing i k)⟩

/-- A bit set in a row of a table of rows leaves every bit that was set. -/
theorem put_or_getLsbD {w n : Nat} (v : Vector (BitVec w) n) (c : Fin n) (bits : BitVec w) (d : Fin n)
    (i : Nat) (h : v[d].getLsbD i = true) : (put v c (v[c] ||| bits))[d].getLsbD i = true := by
  by_cases same : d = c
  · subst same
    simp only [Fin.getElem_fin] at h
    simp [h]
  · simpa [same] using h

/-- A burn sets fuses and clears none (R89). -/
theorem burnFuse_keeps (f : Fuses) (kind : FuseKind) (fuse : Nat) : f.Keeps (burnFuse f kind fuse) := by
  have same := Fuses.Keeps.refl f
  cases kind with
  | floor i c target => exact { same with floors := put_or_getLsbD f.floors c _ }
  | revoke k before => exact { same with revoke := fun i h => by simp [burnFuse, h] }
  | enroll e => exact { same with entries := put_or_getLsbD f.entries e _ }
  | close => exact { same with closing := fun i h => by simp [burnFuse, h] }

theorem foldl_burnFuse_keeps (kind : FuseKind) (fuses : List Nat) : ∀ f : Fuses,
    f.Keeps (fuses.foldl (fun g i => burnFuse g kind i) f) := by
  induction fuses with
  | nil => exact Fuses.Keeps.refl
  | cons i rest ih => exact fun f => (burnFuse_keeps f kind i).trans (ih _)

/-- The array that a read-back finds has lost no fuse (R93). -/
theorem arrayAfterBurn_keeps (f : Fuses) (op : FuseOp) (took : Bool) (strays : List Nat) :
    f.Keeps (arrayAfterBurn f op took strays) := by
  unfold arrayAfterBurn
  refine .trans ?_ (foldl_burnFuse_keeps op.kind _ _)
  split
  · exact burnFuse_keeps f op.kind op.fuse
  · exact .refl f

/-- The fuses have lost nothing, and the ROM is as it was (R89). -/
structure State.KeepsFuses (s t : State) : Prop where
  fuses : s.fuses.Keeps t.fuses
  rom   : t.rom = s.rom

theorem State.KeepsFuses.refl (s : State) : s.KeepsFuses s := ⟨.refl _, rfl⟩

theorem State.KeepsFuses.trans {s t u : State} (h : s.KeepsFuses t) (k : t.KeepsFuses u) :
    s.KeepsFuses u := ⟨h.fuses.trans k.fuses, k.rom.trans h.rom⟩

theorem State.SameUnits.keepsFuses {s t : State} (h : s.SameUnits t) : s.KeepsFuses t := by
  obtain ⟨_, _, _, _, _, _, _, _, _, _, _, _, _, rfl⟩ := h
  exact ⟨.refl _, rfl⟩

theorem State.SameBody.keepsFuses {s t : State} (h : s.SameBody t) : s.KeepsFuses t := by
  obtain ⟨_, _, _, _, _, _, _, rfl⟩ := h
  exact ⟨.refl _, rfl⟩

/-- A burn that a reset interrupts may leave its fuse burnt (R95). -/
theorem State.interruptBurn_keeps (s : State) : s.fuses.Keeps s.interruptBurn.fuses := by
  unfold State.interruptBurn
  split
  · exact .refl _
  next op _ =>
    simp only []
    split
    · exact burnFuse_keeps _ _ _
    · exact .refl _

theorem State.cold_keepsFuses (s : State) : s.KeepsFuses s.cold := ⟨s.interruptBurn_keeps, rfl⟩

theorem State.warmReset_keepsFuses (s : State) (cause : ResetCause) :
    s.KeepsFuses (s.warmReset cause) := ⟨s.interruptBurn_keeps, rfl⟩

theorem State.takeJob_keepsFuses (s : State) : s.KeepsFuses s.takeJob := by
  unfold State.takeJob
  split <;> exact ⟨.refl _, rfl⟩

theorem State.startNext_keepsFuses (b s : State) : s.KeepsFuses (b.startNext s) := by
  unfold State.startNext
  split
  · exact (b.conclude_sameUnits s).keepsFuses
  · exact ((s.endStarts_sameUnits.trans (b.conclude_sameUnits _)).trans
      (State.endStarts_sameUnits _)).keepsFuses.trans (State.takeJob_keepsFuses _)

theorem State.placeJob_keepsFuses (s : State) (j : Job) : s.KeepsFuses (s.placeJob j) := by
  have placed : s.KeepsFuses { s with jobs := s.jobs ++ [j] } := ⟨.refl _, rfl⟩
  exact placed.trans (s.startNext_keepsFuses _)

theorem State.coreTake_keepsFuses (s : State) : s.KeepsFuses s.coreTake := by
  unfold State.coreTake
  split <;> exact ⟨.refl _, rfl⟩

theorem State.Serves.keepsFuses {s t : State} (h : s.Serves t) : s.KeepsFuses t := by
  cases h with
  | opens => exact ⟨.refl _, rfl⟩
  | appends => exact ⟨.refl _, rfl⟩
  | rejects i e =>
    exact ((s.reject_sameUnits i e.code none e.key e.detail).trans (s.conclude_sameUnits _)).keepsFuses
  | checks i c p => exact (s.setSlot_sameUnits i _).keepsFuses.trans (State.placeJob_keepsFuses _ _)
  | drops i => exact (s.drop_sameUnits i).keepsFuses
  | claims => exact ⟨.refl _, rfl⟩
  | queues x c data =>
    unfold State.acceptChunk
    refine .trans ?_ (State.coreTake_keepsFuses _)
    exact ⟨.refl _, rfl⟩
  | closes x c =>
    simp only [State.closeSegment]
    split
    · exact (s.completeCtx_sameUnits x _).keepsFuses
    · exact (s.setCtx_sameUnits x _).keepsFuses
  | declines c => exact (s.decline_sameUnits c).keepsFuses
  | reloads => exact (s.setCount_sameUnits _ _).keepsFuses
  | starts => exact ⟨.refl _, rfl⟩
  | notices l target signer signature =>
    have reserved : s.KeepsFuses { s with reserved := true, revoking := some target } := ⟨.refl _, rfl⟩
    exact reserved.trans (State.placeJob_keepsFuses _ _)
  | stages => exact ⟨.refl _, rfl⟩

theorem State.finishChunk_keepsFuses (s : State) : s.KeepsFuses s.finishChunk := by
  unfold State.finishChunk
  split
  · exact .refl s
  · refine .trans ?_ (State.coreTake_keepsFuses _)
    split
    · exact ⟨.refl _, rfl⟩
    · have taken : s.KeepsFuses { s with core := none } := ⟨.refl _, rfl⟩
      simp only []
      split
      · exact taken.trans (State.completeCtx_sameUnits _ _ _).keepsFuses
      · exact taken.trans (State.setCtx_sameUnits _ _ _).keepsFuses

theorem State.endManifestJob_keepsFuses (s : State) : s.KeepsFuses s.endManifestJob := by
  unfold State.endManifestJob
  split
  · have ended : s.KeepsFuses { s with active := none } := ⟨.refl _, rfl⟩
    exact (ended.trans (State.jobReport_sameUnits _ _ _ _).keepsFuses).trans
      (State.startNext_keepsFuses _ _)
  · exact .refl s

theorem State.endRevokeJob_keepsFuses (s : State) : s.KeepsFuses s.endRevokeJob := by
  unfold State.endRevokeJob
  split
  · refine .trans ?_ (State.startNext_keepsFuses _ _)
    split <;> exact ⟨.refl _, rfl⟩
  · exact .refl s

/-- After its burn an operation's end rejects slots or resets the part, and touches no fuse. -/
theorem State.endOperation_keepsFuses (s : State) (op : FuseOp) : s.KeepsFuses (s.endOperation op) := by
  have ended : s.KeepsFuses { s with fuseOp := none } := ⟨.refl _, rfl⟩
  have freed : s.KeepsFuses (({ s with fuseOp := none } : State).endReservation) := ⟨.refl _, rfl⟩
  unfold State.endOperation
  simp only []
  split
  · exact ended.trans (State.post_sameUnits _ _).keepsFuses
  · exact freed.trans ((State.rejectBound_sameUnits _ _).trans (State.post_sameUnits _ _)).keepsFuses
  · exact ended.trans (State.post_sameUnits _ _).keepsFuses
  · exact ended.trans (State.warmReset_keepsFuses _ _)

theorem State.failOperation_keepsFuses (s : State) (op : FuseOp) : s.KeepsFuses (s.failOperation op) := by
  have failed : s.KeepsFuses ((({ s with fuseOp := none } : State).recordFault
      (s.fuseFaultRecord op)).post .fuseDone) := ⟨.refl _, rfl⟩
  have freed : s.KeepsFuses ((({ s with fuseOp := none } : State).recordFault
      (s.fuseFaultRecord op)).post .fuseDone).endReservation := ⟨.refl _, rfl⟩
  unfold State.failOperation
  simp only []
  split
  · exact failed
  · split
    · exact freed.trans (State.rejectBound_sameUnits _ _).keepsFuses
    · exact freed
  · exact failed
  · split
    · exact failed.trans (State.warmReset_keepsFuses _ _)
    · exact failed

theorem State.finishBurn_keepsFuses (s : State) (took : Bool) (strays : List Nat) :
    s.KeepsFuses (s.finishBurn took strays) := by
  unfold State.finishBurn
  split
  · exact .refl s
  next op _ =>
    have burnt : s.KeepsFuses { s with fuses := arrayAfterBurn s.fuses op took strays } :=
      ⟨arrayAfterBurn_keeps _ _ _ _, rfl⟩
    simp only []
    split
    · split
      · exact ⟨arrayAfterBurn_keeps _ _ _ _, rfl⟩
      · exact burnt.trans (State.endOperation_keepsFuses _ _)
    · exact burnt.trans (State.failOperation_keepsFuses _ _)

theorem State.enterVerify_keepsFuses (s : State) (p : Policy) : s.KeepsFuses (s.enterVerify p) := by
  have loaded : s.KeepsFuses { s with mode := .verify, inForce := some p, classes := loadedClasses p,
                                      lines := loadedLines p } := ⟨.refl _, rfl⟩
  exact loaded.trans
    ((State.setCount_sameUnits _ _ _).trans (State.settleIfDecided_sameUnits _)).keepsFuses

theorem State.endSelfTest_keepsFuses (s : State) : s.KeepsFuses s.endSelfTest := by
  have tested : s.KeepsFuses { s with selfTest := false } := ⟨.refl _, rfl⟩
  unfold State.endSelfTest
  split
  · simp only []
    split
    · exact ⟨.refl _, rfl⟩
    · split
      · split
        · exact ⟨.refl _, rfl⟩
        · exact tested.trans (State.enterVerify_keepsFuses _ _)
      · exact ⟨.refl _, rfl⟩
  · exact .refl s

theorem State.Event.keepsFuses {s t : State} (h : s.Event t) : s.KeepsFuses t := by
  cases h with
  | serves h => exact h.keepsFuses
  | chunk => exact s.finishChunk_keepsFuses
  | manifestJob => exact s.endManifestJob_keepsFuses
  | revokeJob => exact s.endRevokeJob_keepsFuses
  | burn took strays => exact s.finishBurn_keepsFuses took strays
  | selfTest => exact s.endSelfTest_keepsFuses
  | ticks => exact s.tick_sameUnits.keepsFuses
  | clock => exact ⟨.refl _, rfl⟩
  | cold cause =>
    exact .trans (⟨.refl _, rfl⟩ : s.KeepsFuses { s with supplyLow := decide (cause = .brownOut) })
      (State.cold_keepsFuses _)
  | warm low cause =>
    exact .trans (⟨.refl _, rfl⟩ : s.KeepsFuses { s with resetNLow := low })
      (State.warmReset_keepsFuses _ _)
  | falls => exact ⟨.refl _, rfl⟩
  | rises => exact ⟨.refl _, rfl⟩

/-- Settles O59: no change of the links and no event clears a fuse or writes the ROM. -/
theorem fusesAreOneWay : Obligations.FusesAreOneWay := by
  intro s t stepped
  obtain ⟨rest, moves⟩ := step_moves stepped
  have kept : s.KeepsFuses t := moves.keeps (P := s.KeepsFuses)
    (fun same h => h.trans same.keepsFuses) (fun event h => h.trans event.keepsFuses) ⟨.refl _, rfl⟩
  exact ⟨kept.fuses, kept.rom⟩

end Sys2Proof.Machine
end

section
/-! SUPPORT. RELEASED lines stand: a class that is VERIFIED stays so, one that is DECLINED stays so or is
VERIFIED, and a line is RELEASED where it stands (R117, R118). -/

namespace Sys2Proof.Machine

/-- Class records of which those that a RELEASED line may stand on keep their states. -/
def ClassesHold (v w : Vector ClassRec 8) : Prop :=
  ∀ c : Fin 8, (v[c].state = .verified → w[c].state = .verified) ∧
    (v[c].state = .declined → w[c].state = .verified ∨ w[c].state = .declined)

theorem LineRec.Stands.hold {v w : Vector ClassRec 8} {x : LineRec} (h : x.Stands v)
    (k : ClassesHold v w) : x.Stands w := fun c =>
  ⟨fun need => (k c).1 ((h c).1 need),
    fun soft => ((h c).2 soft).elim (fun won => .inl ((k c).1 won)) (k c).2⟩

/-- Lines that are as they were stand on classes that hold. -/
theorem State.LinesStand.hold {s t : State} (h : s.LinesStand) (lines : t.lines = s.lines)
    (classes : ClassesHold s.classes t.classes) : t.LinesStand := fun i released => by
  rw [lines] at released ⊢
  exact (h i released).hold classes

theorem State.LinesStand.same {s t : State} (h : s.LinesStand) (lines : t.lines = s.lines)
    (classes : t.classes = s.classes) : t.LinesStand :=
  h.hold lines fun c => by rw [classes]; exact ⟨id, .inr⟩

/-- Lines none of which is RELEASED. -/
theorem State.linesStand_of_ne {s : State} (h : ∀ i : Fin 6, s.lines[i].state ≠ .released) :
    s.LinesStand := fun i released => absurd released (h i)

/-- A class record replaced by one in a state that lines may stand on, or replaced while PENDING. -/
theorem classesHold_put (v : Vector ClassRec 8) (c : Fin 8) (x : ClassRec)
    (h : x.state = .verified ∨ x.state = v[c].state ∨ v[c].state = .pending) :
    ClassesHold v (put v c x) := by
  intro d
  by_cases same : d = c
  · subst same
    have got : (put v d x)[d] = x := put_getElem_self v d x
    rw [got]
    rcases h with h | h | h <;> simp_all
  · have kept : (put v c x)[d] = v[d] := put_getElem_ne v x same
    rw [kept]
    exact ⟨id, .inr⟩

/-- Class records of which the PENDING ones alone change. -/
theorem classesHold_of_pending {v w : Vector ClassRec 8}
    (h : ∀ c : Fin 8, w[c] = v[c] ∨ v[c].state = .pending) : ClassesHold v w := by
  intro c
  rcases h c with e | e
  · rw [e]; exact ⟨id, .inr⟩
  · rw [e]; exact ⟨nofun, nofun⟩

/-! ### Events that moved slots -/

/-- The release gate releases a line only where it stands (R117, R118). -/
theorem evaluateLine_released {classes : Vector ClassRec 8} {x : LineRec}
    (h : evaluateLine classes x = .released) : x.Stands classes := by
  unfold evaluateLine at h
  split at h
  · cases h
  · split at h
    next _ stands => exact (x.stands_iff classes).1 stands
    · cases h

theorem State.gate_linesStand {s : State} (h : s.LinesStand) : s.gate.LinesStand := by
  intro i released
  rw [s.gate_lines] at released ⊢
  rw [s.gate_classes]
  simp only [evaluatedLines, Fin.getElem_fin, tabulate_getElem] at released ⊢
  split at released
  next held =>
    rw [if_pos held]
    have stands := evaluateLine_released released
    exact stands
  next held =>
    rw [if_neg held]
    exact h i released

theorem State.closeExhausted_holds (b s : State) :
    ClassesHold s.classes (b.closeExhausted s).classes := by
  refine classesHold_of_pending fun c => ?_
  rw [b.closeExhausted_classes s c]
  split
  next closes => exact .inr ((b.closes_iff s c).1 closes).2.1
  · exact .inl rfl

theorem State.conclude_linesStand {s : State} (b : State) (h : s.LinesStand) :
    (b.conclude s).LinesStand := by
  have closed : (b.closeExhausted s).LinesStand := by
    refine h.hold ?_ (b.closeExhausted_holds s)
    unfold State.closeExhausted
    split <;> rfl
  simp only [State.conclude]
  split
  · exact State.gate_linesStand closed
  · exact closed

theorem State.settleIfDecided_linesStand {s : State} (h : s.LinesStand) :
    s.settleIfDecided.LinesStand := h.same (by simp) (by simp)

theorem State.reject_linesStand {s : State} (h : s.LinesStand) (i : Fin 12) (r : FaultCode)
    (g : Option Byte) (k : Option (Fin 10)) (d : List Byte) : (s.reject i r g k d).LinesStand :=
  h.same (by simp) (by simp)

theorem State.rejectAll_linesStand {s : State} (h : s.LinesStand) (ns : List (Fin 12))
    (r : FaultCode) (k : Option (Fin 10)) : (s.rejectAll ns r k).LinesStand :=
  h.same (by simp) (by simp)

theorem State.verifySlot_linesStand {s : State} (h : s.LinesStand) (i : Fin 12) :
    (s.verifySlot i).LinesStand := by
  simp only [State.verifySlot]
  split
  · exact h
  · refine h.hold (by simp) ?_
    simpa using classesHold_put s.classes _ _ (.inl rfl)

theorem State.jobReport_linesStand {s : State} (h : s.LinesStand) (i : Fin 12) (g : Byte)
    (r : JobResult) : (s.jobReport i g r).LinesStand := by
  unfold State.jobReport
  split
  · cases r with
    | pass =>
      simp only []
      split
      · exact State.verifySlot_linesStand h i
      · exact h
    | fail => exact State.reject_linesStand (s := s.setSlot i _) h _ _ _ _ _
    | keyRevokedAtStart => exact State.reject_linesStand h _ _ _ _ _
  · exact h

theorem endAtStart_linesStand (n : Nat) : ∀ {s : State}, s.LinesStand → (endAtStart n s).LinesStand := by
  induction n with
  | zero => exact id
  | succ n ih =>
    intro s h
    unfold endAtStart
    split
    next i gen rest _ =>
      split
      · have left : ({ s with jobs := rest } : State).LinesStand := h
        exact ih (State.jobReport_linesStand left i gen .keyRevokedAtStart)
      · exact h
    · exact h

theorem State.endStarts_linesStand {s : State} (h : s.LinesStand) : s.endStarts.LinesStand :=
  endAtStart_linesStand _ h

theorem State.takeJob_linesStand {s : State} (h : s.LinesStand) : s.takeJob.LinesStand := by
  unfold State.takeJob
  split <;> exact h

theorem State.startNext_linesStand {s : State} (b : State) (h : s.LinesStand) :
    (b.startNext s).LinesStand := by
  unfold State.startNext
  split
  · exact State.conclude_linesStand b h
  · exact State.takeJob_linesStand (State.endStarts_linesStand
      (State.conclude_linesStand b (State.endStarts_linesStand h)))

theorem State.placeJob_linesStand {s : State} (h : s.LinesStand) (j : Job) :
    (s.placeJob j).LinesStand := by
  have placed : ({ s with jobs := s.jobs ++ [j] } : State).LinesStand := h
  exact State.startNext_linesStand s placed

theorem State.coreTake_linesStand {s : State} (h : s.LinesStand) : s.coreTake.LinesStand := by
  unfold State.coreTake
  split <;> exact h

theorem State.completeCtx_linesStand {s : State} (h : s.LinesStand) (x : Fin 4) (c : Claim) :
    (s.completeCtx x c).LinesStand := by
  have emptied : (s.setCtx x none).LinesStand := h
  simp only [State.completeCtx]
  split
  · simp only [State.segmentMatch]
    split
    · split
      · refine State.conclude_linesStand _ (State.verifySlot_linesStand ?_ _)
        exact emptied
      · exact emptied
    · exact emptied
  · unfold State.segmentMismatch
    split
    · exact State.conclude_linesStand _ (State.reject_linesStand emptied _ _ _ _ _)
    · exact emptied

theorem declineRefusal_none {x : ClassRec} (h : declineRefusal x = none) :
    x.disposition = .optional ∧ x.state = .pending := by
  unfold declineRefusal at h
  split at h
  · cases h
  next optional =>
    refine ⟨not_not.1 optional, ?_⟩
    cases state : x.state <;> simp_all

theorem State.decline_linesStand {s : State} (h : s.LinesStand) {c : Fin 8}
    (pending : s.classes[c].state = .pending) : (s.decline c).LinesStand := by
  have declined : (s.setClass c { s.classes[c] with state := .declined }).LinesStand :=
    h.hold rfl (classesHold_put s.classes c _ (.inr (.inr pending)))
  unfold State.decline
  refine State.gate_linesStand ?_
  exact State.rejectAll_linesStand declined _ _ _

theorem State.drop_linesStand {s : State} (h : s.LinesStand) (i : Fin 12) : (s.drop i).LinesStand := by
  simp only [State.drop]
  split
  · exact h
  · split
    · refine State.conclude_linesStand _ ?_
      exact h
    · exact h

theorem State.setCount_linesStand {s : State} (h : s.LinesStand) (w : Window) (count : Nat) :
    (s.setCount w count).LinesStand := by
  simp only [State.setCount]
  split <;> exact h

/-- At expiry PENDING classes alone fail, and HELD lines are locked (R134). -/
theorem State.moveClasses_failed_linesStand {s : State} (h : s.LinesStand) :
    (s.moveClasses (failedClasses s.classes)).LinesStand := by
  unfold State.moveClasses
  split
  · exact h
  · refine h.hold rfl (classesHold_of_pending fun c => ?_)
    simp only [State.post_classes, failedClasses, Fin.getElem_fin, tabulate_getElem]
    split
    next pending => exact .inr pending
    · exact .inl rfl

theorem State.moveLines_locked_linesStand {s : State} (h : s.LinesStand) :
    (s.moveLines (lockedLines s.lines)).LinesStand := by
  unfold State.moveLines
  split
  · exact h
  · intro i released
    simp only [State.post_lines, State.post_classes, lockedLines, Fin.getElem_fin, tabulate_getElem] at released ⊢
    split at released
    · cases released
    next held =>
      rw [if_neg held]
      exact h i released

theorem State.expire_linesStand {s : State} (h : s.LinesStand) : s.expire.LinesStand := by
  unfold State.expire
  refine State.settleIfDecided_linesStand (State.moveLines_locked_linesStand
    (State.moveClasses_failed_linesStand (State.rejectAll_linesStand ?_ _ _ _)))
  exact h

theorem State.tick_linesStand {s : State} (h : s.LinesStand) : s.tick.LinesStand := by
  rcases s.tick_cases with ⟨-, e⟩ | ⟨-, -, e⟩ | ⟨-, -, e⟩ <;> rw [e]
  · exact h
  · exact State.expire_linesStand h
  · exact State.setCount_linesStand h _ _

/-! ### Resets and start-up -/

theorem State.cold_linesStand (s : State) : s.cold.LinesStand :=
  State.linesStand_of_ne fun i => by simp [State.cold, State.reset, LineRec.held]

theorem State.warmReset_linesStand (s : State) (cause : ResetCause) : (s.warmReset cause).LinesStand :=
  s.cold_linesStand.same rfl rfl

theorem State.enterFailsafe_linesStand (s : State) (r : FaultRecord) :
    (s.enterFailsafe r).LinesStand :=
  State.linesStand_of_ne fun i => by simp [State.enterFailsafe]

/-- Lines are loaded HELD or DISABLED (R115). -/
theorem loadedLines_ne (p : Policy) (i : Fin 6) : (loadedLines p)[i].state ≠ .released := by
  simp only [loadedLines, Fin.getElem_fin, tabulate_getElem]
  split <;> simp

theorem State.enterVerify_linesStand (s : State) (p : Policy) : (s.enterVerify p).LinesStand := by
  unfold State.enterVerify
  refine State.settleIfDecided_linesStand (State.setCount_linesStand ?_ _ _)
  exact State.linesStand_of_ne (loadedLines_ne p)

theorem State.settleRetryLimit_linesStand (s : State) (p : Policy) :
    (s.settleRetryLimit p).LinesStand := by
  refine State.linesStand_of_ne fun i => ?_
  have loaded := loadedLines_ne p i
  simp only [State.settleRetryLimit, State.post_lines, lockedLines, Fin.getElem_fin, tabulate_getElem]
  split
  · simp
  · exact loaded

theorem State.endSelfTest_linesStand {s : State} (h : s.LinesStand) : s.endSelfTest.LinesStand := by
  unfold State.endSelfTest
  split
  · simp only []
    split
    · exact State.enterFailsafe_linesStand _ _
    · split
      · split
        · exact State.settleRetryLimit_linesStand _ _
        · exact State.enterVerify_linesStand _ _
      · exact h
  · exact h

/-! ### The fuse controller -/

theorem State.rejectBound_linesStand {s : State} (h : s.LinesStand) (k : Fin 10) :
    (s.rejectBound k).LinesStand :=
  State.conclude_linesStand _ (State.rejectAll_linesStand h _ _ _)

theorem State.endOperation_linesStand {s : State} (h : s.LinesStand) (op : FuseOp) :
    (s.endOperation op).LinesStand := by
  have freed : (({ s with fuseOp := none } : State).endReservation).LinesStand := h
  unfold State.endOperation
  simp only []
  split
  · exact h
  · exact State.rejectBound_linesStand freed _
  · exact h
  · exact State.warmReset_linesStand _ _

theorem State.failOperation_linesStand {s : State} (h : s.LinesStand) (op : FuseOp) :
    (s.failOperation op).LinesStand := by
  have freed : ((({ s with fuseOp := none } : State).recordFault
      (s.fuseFaultRecord op)).post .fuseDone).endReservation.LinesStand := h
  unfold State.failOperation
  simp only []
  split
  · exact h
  · split
    · exact State.rejectBound_linesStand freed _
    · exact h
  · exact h
  · split
    · exact State.warmReset_linesStand _ _
    · exact h

theorem State.finishBurn_linesStand {s : State} (h : s.LinesStand) (took : Bool) (strays : List Nat) :
    (s.finishBurn took strays).LinesStand := by
  unfold State.finishBurn
  split
  · exact h
  next op _ =>
    have burnt : ({ s with fuses := arrayAfterBurn s.fuses op took strays } : State).LinesStand := h
    simp only []
    split
    · split
      · exact h
      · exact State.endOperation_linesStand burnt op
    · exact State.failOperation_linesStand burnt op

/-! ### Every event -/

theorem State.Serves.linesStand {s t : State} (served : s.Serves t) (h : s.LinesStand) :
    t.LinesStand := by
  cases served with
  | opens c l i => exact h.hold rfl (classesHold_put s.classes c _ (.inr (.inl rfl)))
  | appends => exact h
  | rejects i e => exact State.conclude_linesStand s (State.reject_linesStand h i _ _ _ _)
  | checks i c p =>
    have closed : (s.setSlot i (s.slots[i].closedWith p)).LinesStand := h
    exact State.placeJob_linesStand closed _
  | drops i => exact State.drop_linesStand h i
  | claims => exact h
  | queues x c data =>
    unfold State.acceptChunk
    refine State.coreTake_linesStand ?_
    exact h
  | closes x c =>
    simp only [State.closeSegment]
    split
    · exact State.completeCtx_linesStand h x _
    · exact h
  | declines c mode accepted => exact State.decline_linesStand h (declineRefusal_none accepted).2
  | reloads => exact State.setCount_linesStand h _ _
  | starts => exact h
  | notices l target signer signature =>
    have reserved : ({ s with reserved := true, revoking := some target } : State).LinesStand := h
    exact State.placeJob_linesStand reserved _
  | stages => exact h

theorem State.finishChunk_linesStand {s : State} (h : s.LinesStand) : s.finishChunk.LinesStand := by
  unfold State.finishChunk
  split
  · exact h
  · refine State.coreTake_linesStand ?_
    have taken : ({ s with core := none } : State).LinesStand := h
    split
    · exact taken
    · simp only []
      split
      · exact State.completeCtx_linesStand taken _ _
      · exact h

theorem State.endManifestJob_linesStand {s : State} (h : s.LinesStand) :
    s.endManifestJob.LinesStand := by
  unfold State.endManifestJob
  split
  · have ended : ({ s with active := none } : State).LinesStand := h
    exact State.startNext_linesStand s (State.jobReport_linesStand ended _ _ _)
  · exact h

theorem State.endRevokeJob_linesStand {s : State} (h : s.LinesStand) : s.endRevokeJob.LinesStand := by
  unfold State.endRevokeJob
  split
  · refine State.startNext_linesStand s ?_
    split <;> exact h
  · exact h

theorem State.Event.linesStand {s t : State} (event : s.Event t) (h : s.LinesStand) :
    t.LinesStand := by
  cases event with
  | serves served => exact served.linesStand h
  | chunk => exact State.finishChunk_linesStand h
  | manifestJob => exact State.endManifestJob_linesStand h
  | revokeJob => exact State.endRevokeJob_linesStand h
  | burn took strays => exact State.finishBurn_linesStand h took strays
  | selfTest => exact State.endSelfTest_linesStand h
  | ticks => exact State.tick_linesStand h
  | clock => exact h
  | cold cause => exact State.cold_linesStand _
  | warm low cause => exact State.warmReset_linesStand _ _
  | falls => exact h
  | rises => exact h

/-- Settles O58: no change of the links and no event takes a RELEASED line off what it stands on. -/
theorem releasedLinesStand : Obligations.ReleasedLinesStand := by
  intro s t h stepped
  obtain ⟨rest, moves⟩ := step_moves stepped
  refine moves.keeps (P := State.LinesStand) ?_ (fun event h => event.linesStand h) h
  rintro s t ⟨_, _, _, _, _, _, _, rfl⟩ h
  exact h

end Sys2Proof.Machine
end

section
/-! SUPPORT. Records read by an index of type `Fin`, the states of a slot, and what one rejection makes of the
slots' work and of the fault records. -/

namespace Sys2Proof.Machine

theorem tabulate_fin {α : Type} {n : Nat} (f : Fin n → α) (i : Fin n) : (tabulate f)[i] = f i :=
  tabulate_getElem f i.val i.isLt

theorem put_fin {α : Type} {n : Nat} (v : Vector α n) (i : Fin n) (x : α) (j : Fin n) :
    (put v i x)[j] = if j = i then x else v[j] := by
  split
  next h => subst h; exact put_getElem_self v j x
  next h => exact put_getElem_ne v x h

theorem put_fin_self {α : Type} {n : Nat} (v : Vector α n) (i : Fin n) (x : α) : (put v i x)[i] = x :=
  put_getElem_self v i x

theorem put_fin_ne {α : Type} {n : Nat} (v : Vector α n) {i j : Fin n} (x : α) (h : j ≠ i) :
    (put v i x)[j] = v[j] := put_getElem_ne v x h

theorem Slot.live_iff (x : Slot) :
    x.live = true ↔ x.state = .loading ∨ x.state = .checking ∨ x.state = .signed := by
  simp [Slot.live, or_assoc]

/-- A slot with another open-context list is as live as it was. -/
theorem Slot.live_of_state {x y : Slot} (h : x.state = y.state) : x.live = y.live := by
  simp only [Slot.live, h]

/-! ### One rejection -/

theorem State.reject_ctxs {s : State} {i : Fin 12} (h : s.slots[i].live = true) (r : FaultCode)
    (g : Option Byte) (k : Option (Fin 10)) (d : List Byte) :
    (s.reject i r g k d).ctxs = tabulate fun x => s.ctxs[x].filter fun c => c.slot != i := by
  simp only [State.reject]
  rw [if_pos h]
  rfl

theorem State.reject_chunkQueue {s : State} {i : Fin 12} (h : s.slots[i].live = true) (r : FaultCode)
    (g : Option Byte) (k : Option (Fin 10)) (d : List Byte) :
    (s.reject i r g k d).chunkQueue =
      s.chunkQueue.filter fun ch => !(ch.slot == i && ch.gen == s.slots[i].gen) := by
  simp only [State.reject]
  rw [if_pos h]
  rfl

theorem State.reject_jobs {s : State} {i : Fin 12} (h : s.slots[i].live = true) (r : FaultCode)
    (g : Option Byte) (k : Option (Fin 10)) (d : List Byte) :
    (s.reject i r g k d).jobs = s.jobs.filter fun j => j != .manifest i s.slots[i].gen := by
  simp only [State.reject]
  rw [if_pos h]
  rfl

/-- The fault that a rejection records (R16, Table 10-1). -/
def State.rejection (s : State) (i : Fin 12) (r : FaultCode) (g : Option Byte) (k : Option (Fin 10))
    (d : List Byte) : FaultRecord :=
  { stamp := s.bootClock, code := r, link := s.slots[i].owner, slot := some i, cls := s.slots[i].cls,
    seg := g, key := k, detail := padTo 8 d }

theorem State.reject_faults (s : State) (i : Fin 12) (r : FaultCode) (g : Option Byte)
    (k : Option (Fin 10)) (d : List Byte) :
    (s.reject i r g k d).faults = storeFault s.faults (s.rejection i r g k d) := by
  simp only [State.reject]
  split <;> rfl

theorem State.reject_linkM (s : State) (i : Fin 12) (r : FaultCode) (g : Option Byte)
    (k : Option (Fin 10)) (d : List Byte) :
    (s.reject i r g k d).linkM = { s.linkM with flags := s.linkM.flags ||| 0x080 ||| 0x001 } := by
  simp only [State.reject]
  split <;> rfl

theorem State.reject_linkE (s : State) (i : Fin 12) (r : FaultCode) (g : Option Byte)
    (k : Option (Fin 10)) (d : List Byte) :
    (s.reject i r g k d).linkE = { s.linkE with flags := s.linkE.flags ||| 0x080 ||| 0x001 } := by
  simp only [State.reject]
  split <;> rfl

/-! ### Fault capture -/

/-- Where a stored record stands: in place 0, and in the place that was the lowest empty (R158). -/
theorem storeFault_getElem (v : Vector FaultRecord 4) (r : FaultRecord) (n : Fin 4) :
    (storeFault v r)[n] = if n = 0 ∨ firstEmpty v = some n then r else v[n] := by
  unfold storeFault
  split
  next i e =>
    rw [put_fin, put_fin, e]
    simp only [Option.some.injEq, eq_comm (a := i)]
    split_ifs <;> simp_all
  next e =>
    rw [put_fin, e]
    simp

/-- A property of every record holds of all of them once a record that has it is stored. -/
theorem storeFault_all {P : FaultRecord → Prop} {v : Vector FaultRecord 4} {r : FaultRecord}
    (h : ∀ n : Fin 4, P v[n]) (k : P r) (n : Fin 4) : P (storeFault v r)[n] := by
  rw [storeFault_getElem]
  split
  · exact k
  · exact h n

end Sys2Proof.Machine
end

section
/-! SUPPORT. The bookkeeping of the digest unit's work, kept by each change of the slots, the contexts and the
chunks (Chapter 3). -/

namespace Sys2Proof.Machine

/-- The work of the digest unit depends on the slots, the contexts, the chunks and the fault records alone. -/
theorem State.WorkSound.same {s t : State} (h : s.WorkSound) (slots : t.slots = s.slots)
    (ctxs : t.ctxs = s.ctxs) (chunks : t.chunkQueue = s.chunkQueue) (core : t.core = s.core)
    (faults : t.faults = s.faults) : t.WorkSound := by
  constructor
  · rw [slots, ctxs]; exact h.claims
  · rw [slots, ctxs]; exact h.openCtxs
  · rw [ctxs, chunks]; exact h.queued
  · rw [slots, ctxs, core]; exact h.coreChunk
  · rw [ctxs, chunks, core]; exact h.counted
  · rw [faults]; exact h.details

/-- A fault recorded leaves the rest of the work as it is. -/
theorem State.WorkSound.faults {s : State} (h : s.WorkSound) (v : Vector FaultRecord 4)
    (details : ∀ n : Fin 4, v[n].detail.length = 8) : ({ s with faults := v } : State).WorkSound :=
  { h with details := details }

/-- A slot that is neither CHECKING nor SIGNED has no claimed context. -/
theorem State.WorkSound.no_claim {s : State} (h : s.WorkSound) {i : Fin 12}
    (state : s.slots[i].state ≠ .checking ∧ s.slots[i].state ≠ .signed) (x : Fin 4) (c : Claim)
    (claim : s.ctxs[x] = some c) : c.slot ≠ i := by
  rintro rfl
  obtain ⟨live, -⟩ := h.claims x c claim
  tauto

theorem State.WorkSound.openCtxs_nil {s : State} (h : s.WorkSound) {i : Fin 12}
    (none : ∀ (x : Fin 4) (c : Claim), s.ctxs[x] = some c → c.slot ≠ i) : s.slots[i].openCtxs = [] := by
  rw [List.eq_nil_iff_forall_not_mem]
  intro x named
  obtain ⟨c, claim, slot⟩ := ((h.openCtxs i).2 x).1 named
  exact none x c claim slot

/-- A queued chunk belongs to the claim of its context. -/
theorem State.WorkSound.queued_claim {s : State} (h : s.WorkSound) {ch : Chunk} {c : Claim}
    (mem : ch ∈ s.chunkQueue) (claim : s.ctxs[ch.ctx] = some c) :
    c.slot = ch.slot ∧ c.gen = ch.gen := by
  obtain ⟨d, hd, slot, gen⟩ := h.queued ch mem
  obtain rfl : c = d := Option.some.inj (claim.symm.trans hd)
  exact ⟨slot, gen⟩

/-- The work of one slot released, and the slot left in a state that is not live (R18, R53, R54). -/
theorem State.WorkSound.released {s t : State} (h : s.WorkSound) (i : Fin 12)
    (others : ∀ j : Fin 12, j ≠ i → t.slots[j] = s.slots[j])
    (slot : t.slots[i].openCtxs = [] ∧ t.slots[i].gen = s.slots[i].gen ∧ t.slots[i].live = false)
    (ctxs : t.ctxs = tabulate fun x => s.ctxs[x].filter fun c => c.slot != i)
    (chunks : t.chunkQueue =
      s.chunkQueue.filter fun ch => !(ch.slot == i && ch.gen == s.slots[i].gen))
    (core : t.core = s.core) (details : ∀ n : Fin 4, t.faults[n].detail.length = 8) :
    t.WorkSound := by
  obtain ⟨noCtx, sameGen, dead⟩ := slot
  have mem (x : Fin 4) (c : Claim) : t.ctxs[x] = some c ↔ s.ctxs[x] = some c ∧ c.slot ≠ i := by
    rw [ctxs, tabulate_fin, Option.filter_eq_some_iff]
    simp
  have gens (j : Fin 12) : t.slots[j].gen = s.slots[j].gen := by
    by_cases same : j = i
    · rw [same, sameGen]
    · rw [others j same]
  constructor
  case claims =>
    intro x c claim
    obtain ⟨claim, ne⟩ := (mem x c).1 claim
    rw [others _ ne]
    obtain ⟨state, gen, unmatched, alone⟩ := h.claims x c claim
    exact ⟨state, gen, unmatched, fun y d other => alone y d ((mem y d).1 other).1⟩
  case openCtxs =>
    intro j
    by_cases same : j = i
    · subst same
      rw [noCtx]
      refine ⟨List.nodup_nil, fun x => ⟨nofun, ?_⟩⟩
      rintro ⟨c, claim, rfl⟩
      exact absurd rfl ((mem x c).1 claim).2
    · rw [others j same]
      obtain ⟨distinct, names⟩ := h.openCtxs j
      refine ⟨distinct, fun x => (names x).trans ⟨?_, ?_⟩⟩
      · rintro ⟨c, claim, rfl⟩
        exact ⟨c, (mem x c).2 ⟨claim, same⟩, rfl⟩
      · rintro ⟨c, claim, slot⟩
        exact ⟨c, ((mem x c).1 claim).1, slot⟩
  case queued =>
    intro ch left
    rw [chunks, List.mem_filter] at left
    obtain ⟨queued, kept⟩ := left
    obtain ⟨c, claim, slot, gen⟩ := h.queued ch queued
    refine ⟨c, (mem _ c).2 ⟨claim, ?_⟩, slot, gen⟩
    rintro rfl
    obtain ⟨-, slotGen, -⟩ := h.claims ch.ctx c claim
    have removed : ch.slot = c.slot ∧ ch.gen = s.slots[c.slot].gen :=
      ⟨slot.symm, gen.symm.trans slotGen.symm⟩
    rw [beq_iff_eq.2 removed.1, beq_iff_eq.2 removed.2] at kept
    cases kept
  case coreChunk =>
    intro ch taken
    rw [core] at taken
    obtain ⟨newer, standing⟩ := h.coreChunk ch taken
    rw [gens]
    refine ⟨newer, fun live gen => ?_⟩
    have ne : ch.slot ≠ i := by
      rintro rfl
      rw [dead] at live
      cases live
    rw [others _ ne] at live
    obtain ⟨c, claim, slot, cgen⟩ := standing live gen
    exact ⟨c, (mem _ c).2 ⟨claim, slot ▸ ne⟩, slot, cgen⟩
  case counted =>
    intro x c claim
    obtain ⟨claim, ne⟩ := (mem x c).1 claim
    rw [h.counted x c claim, core, chunks, List.countP_filter]
    congr 1
    refine List.countP_congr fun ch queued => ?_
    by_cases ctx : ch.ctx = x
    · subst ctx
      obtain ⟨slot, -⟩ := h.queued_claim queued claim
      simp [← slot, ne]
    · simp [ctx]
  case details => exact details

/-- A rejection keeps the bookkeeping of the work (R16, R18). -/
theorem State.WorkSound.reject {s : State} (h : s.WorkSound) {i : Fin 12}
    (live : s.slots[i].live = true) (r : FaultCode) (g : Option Byte) (k : Option (Fin 10))
    (d : List Byte) : (s.reject i r g k d).WorkSound := by
  have slots := State.reject_slots live r g k d
  refine h.released i (fun j ne => ?_) ?_ (State.reject_ctxs live r g k d)
    (State.reject_chunkQueue live r g k d) (s.reject_core i r g k d) fun n => ?_
  · rw [slots, put_fin_ne _ _ ne]
  · rw [slots, put_fin_self]
    exact ⟨rfl, rfl, rfl⟩
  · rw [State.reject_faults]
    exact storeFault_all (P := fun f => f.detail.length = 8) h.details (padTo_length 8 d) n

/-- A rejection order goes through its slots one by one. -/
theorem State.rejectAll_induction {P : State → Prop} (r : FaultCode) (k : Option (Fin 10))
    (one : ∀ (s : State) (i : Fin 12), P s → s.slots[i].live = true → P (s.reject i r none k []))
    {names : List (Fin 12)} : ∀ {s : State}, names.Nodup → (∀ i ∈ names, s.slots[i].live = true) →
      P s → P (s.rejectAll names r k) := by
  induction names with
  | nil => exact fun _ _ h => h
  | cons i rest ih =>
    intro s distinct live h
    obtain ⟨fresh, distinct⟩ := List.nodup_cons.1 distinct
    have here := live i List.mem_cons_self
    have others (j : Fin 12) (mem : j ∈ rest) : (s.reject i r none k []).slots[j].live = true := by
      rw [State.reject_slots here, put_fin_ne _ _ (by rintro rfl; exact fresh mem)]
      exact live j (List.mem_cons_of_mem i mem)
    exact ih distinct others (one s i h here)

theorem State.WorkSound.rejectAll {s : State} (h : s.WorkSound) {names : List (Fin 12)}
    (distinct : names.Nodup) (live : ∀ i ∈ names, s.slots[i].live = true) (r : FaultCode)
    (k : Option (Fin 10)) : (s.rejectAll names r k).WorkSound :=
  State.rejectAll_induction r k (fun _ _ w l => w.reject l r none k []) distinct live h

end Sys2Proof.Machine
end

section
/-! SUPPORT. The work of the digest unit under the requests that make it, the core that takes it and the
contexts that complete (R37 to R54). -/

namespace Sys2Proof.Machine

/-- No context is claimed and no chunk waits: the work of a part that has begun STARTUP. -/
theorem State.workSound_of_none {s : State} (open_nil : ∀ i : Fin 12, s.slots[i].openCtxs = [])
    (ctxs : ∀ x : Fin 4, s.ctxs[x] = none) (chunks : s.chunkQueue = []) (core : s.core = none)
    (details : ∀ n : Fin 4, s.faults[n].detail.length = 8) : s.WorkSound := by
  constructor
  · intro x c claim
    rw [ctxs] at claim
    cases claim
  · intro i
    rw [open_nil]
    refine ⟨List.nodup_nil, fun x => ⟨nofun, ?_⟩⟩
    rintro ⟨c, claim, -⟩
    rw [ctxs] at claim
    cases claim
  · rw [chunks]; exact nofun
  · rw [core]; exact nofun
  · intro x c claim
    rw [ctxs] at claim
    cases claim
  · exact details

/-- A slot replaced by one of its generation and open contexts, which a claim finds as it was. -/
theorem State.WorkSound.setSlot {s : State} (h : s.WorkSound) {i : Fin 12} {y : Slot}
    (openCtxs : y.openCtxs = s.slots[i].openCtxs) (gen : y.gen = s.slots[i].gen)
    (live : y.live = true → s.slots[i].live = true)
    (claimed : ∀ (x : Fin 4) (c : Claim), s.ctxs[x] = some c → c.slot = i →
      (y.state = .checking ∨ y.state = .signed) ∧ y.segMap = s.slots[i].segMap) :
    (s.setSlot i y).WorkSound := by
  have slot (j : Fin 12) : (s.setSlot i y).slots[j] = if j = i then y else s.slots[j] := put_fin ..
  constructor
  case claims =>
    intro x c claim
    obtain ⟨state, cgen, unmatched, alone⟩ := h.claims x c claim
    rw [slot]
    split
    next same =>
      obtain ⟨state', map⟩ := claimed x c claim same
      subst same
      exact ⟨state', gen.trans cgen, map ▸ unmatched, alone⟩
    · exact ⟨state, cgen, unmatched, alone⟩
  case openCtxs =>
    intro j
    rw [slot]
    split
    next same => subst same; rw [openCtxs]; exact h.openCtxs j
    · exact h.openCtxs j
  case queued => exact h.queued
  case coreChunk =>
    intro ch taken
    obtain ⟨newer, standing⟩ := h.coreChunk ch taken
    rw [slot]
    split
    next same => subst same; rw [gen]; exact ⟨newer, fun l => standing (live l)⟩
    · exact ⟨newer, standing⟩
  case counted => exact h.counted
  case details => exact h.details

/-- A FREE slot claimed, its generation raised (R6): no chunk in the core is of the new generation. -/
theorem State.WorkSound.opened {s : State} (h : s.WorkSound) {i : Fin 12} {y : Slot}
    (free : s.slots[i].state = .free) (openCtxs : y.openCtxs = [])
    (gen : s.slots[i].gen.toNat < y.gen.toNat) : (s.setSlot i y).WorkSound := by
  have unclaimed := h.no_claim (i := i) (by rw [free]; exact ⟨nofun, nofun⟩)
  have slot (j : Fin 12) : (s.setSlot i y).slots[j] = if j = i then y else s.slots[j] := put_fin ..
  constructor
  case claims =>
    intro x c claim
    rw [slot, if_neg (unclaimed x c claim)]
    exact h.claims x c claim
  case openCtxs =>
    intro j
    rw [slot]
    split
    next same =>
      subst same
      rw [openCtxs, ← h.openCtxs_nil unclaimed]
      exact h.openCtxs j
    · exact h.openCtxs j
  case queued => exact h.queued
  case coreChunk =>
    intro ch taken
    obtain ⟨newer, standing⟩ := h.coreChunk ch taken
    rw [slot]
    split
    next same =>
      subst same
      refine ⟨newer.trans gen.le, fun _ sameGen => ?_⟩
      rw [sameGen] at gen
      omega
    · exact ⟨newer, standing⟩
  case counted => exact h.counted
  case details => exact h.details

/-- A claim that changes in its counts alone is found as it was. -/
theorem State.WorkSound.ctx_iff {s : State} {x : Fin 4} {c d : Claim} (claim : s.ctxs[x] = some c)
    (slot : d.slot = c.slot) (gen : d.gen = c.gen) (P : Fin 12 → Byte → Prop) (y : Fin 4) :
    (∃ e ∈ (put s.ctxs x (some d))[y], P e.slot e.gen) ↔ ∃ e ∈ s.ctxs[y], P e.slot e.gen := by
  rw [put_fin]
  split
  next same =>
    subst same
    rw [claim]
    simp [slot, gen]
  · rfl

/-- A claim whose counts change together with the chunk queue and the core, its chunk counted again. -/
theorem State.WorkSound.recount {s t : State} (h : s.WorkSound) {x : Fin 4} {c d : Claim}
    (claim : s.ctxs[x] = some c) (same : d.slot = c.slot ∧ d.gen = c.gen ∧ d.seg = c.seg)
    (slots : t.slots = s.slots) (ctxs : t.ctxs = put s.ctxs x (some d)) (faults : t.faults = s.faults)
    (queued : ∀ ch ∈ t.chunkQueue, ch ∈ s.chunkQueue ∨ ch.ctx = x ∧ ch.slot = c.slot ∧ ch.gen = c.gen)
    (core : ∀ ch ∈ t.core, ch ∈ s.core)
    (counted : ∀ (y : Fin 4), ∀ e ∈ t.ctxs[y],
      e.pendingChunks = (t.chunkQueue.countP fun ch => ch.ctx == y) +
        (match t.core with
          | some ch => if ch.ctx = y ∧ ch.slot = e.slot ∧ ch.gen = e.gen then 1 else 0
          | none => 0)) : t.WorkSound := by
  obtain ⟨slot, gen, seg⟩ := same
  have found (P : Fin 12 → Byte → Prop) (y : Fin 4) :=
    State.WorkSound.ctx_iff claim slot gen P y
  have old (y : Fin 4) (e : Claim) (he : t.ctxs[y] = some e) :
      ∃ e' ∈ s.ctxs[y], e'.slot = e.slot ∧ e'.gen = e.gen ∧ e'.seg = e.seg := by
    rw [ctxs, put_fin] at he
    split at he
    next same => cases he; subst same; exact ⟨c, claim, slot.symm, gen.symm, seg.symm⟩
    next => exact ⟨e, he, rfl, rfl, rfl⟩
  constructor
  case claims =>
    intro y e he
    obtain ⟨e', he', es, eg, esg⟩ := old y e he
    obtain ⟨state, egen, unmatched, alone⟩ := h.claims y e' he'
    simp only [slots, ← es, ← eg, ← esg]
    refine ⟨state, egen, unmatched, fun z f hf => ?_⟩
    obtain ⟨f', hf', fs, fg, fsg⟩ := old z f hf
    simp only [← fs, ← fsg]
    exact alone z f' hf'
  case openCtxs =>
    intro j
    rw [slots]
    obtain ⟨distinct, names⟩ := h.openCtxs j
    refine ⟨distinct, fun y => (names y).trans ?_⟩
    rw [ctxs]
    exact (found (fun k _ => k = j) y).symm
  case queued =>
    intro ch mem
    rw [ctxs]
    refine (found (fun k g => k = ch.slot ∧ g = ch.gen) ch.ctx).2 ?_
    rcases queued ch mem with old | ⟨rfl, sl, gn⟩
    · exact h.queued ch old
    · exact ⟨c, claim, sl.symm, gn.symm⟩
  case coreChunk =>
    intro ch taken
    obtain ⟨newer, standing⟩ := h.coreChunk ch (core ch taken)
    rw [slots, ctxs]
    exact ⟨newer, fun l g =>
      (found (fun k g => k = ch.slot ∧ g = ch.gen) ch.ctx).2 (standing l g)⟩
  case counted => exact counted
  case details => rw [faults]; exact h.details

/-- SEG_CLOSE marks a claim DRAINING (R48). -/
theorem State.WorkSound.drains {s : State} (h : s.WorkSound) {x : Fin 4} {c : Claim}
    (claim : s.ctxs[x] = some c) (draining : Bool) :
    (s.setCtx x (some { c with draining := draining })).WorkSound := by
  refine h.recount (d := { c with draining := draining }) claim ⟨rfl, rfl, rfl⟩ rfl rfl rfl
    (fun _ mem => .inl mem) (fun _ mem => mem) ?_
  intro y e he
  simp only [State.setCtx_ctxs, put_fin] at he
  split at he
  next same =>
    subst same
    cases he
    exact h.counted y c claim
  next => exact h.counted y e he

/-- SEG_OPEN claims an IDLE context for a segment that has none (R42, R43). -/
theorem State.WorkSound.claims_ctx {s : State} (h : s.WorkSound) {i : Fin 12} {p : Parsed} {j : Nat}
    {x : Fin 4} (state : s.slots[i].state = .checking ∨ s.slots[i].state = .signed)
    (idle : s.ctxs[x] = none) (unmatched : s.slots[i].segMap.getD j true = false)
    (alone : ∀ (y : Fin 4) (c : Claim), s.ctxs[y] = some c → c.slot = i → c.seg ≠ j) :
    ((s.setCtx x (some (openedClaim i s.slots[i].gen p j))).setSlot i
      { s.slots[i] with openCtxs := s.slots[i].openCtxs ++ [x] }).WorkSound := by
  set t := (s.setCtx x (some (openedClaim i s.slots[i].gen p j))).setSlot i
    { s.slots[i] with openCtxs := s.slots[i].openCtxs ++ [x] } with ht
  have slot (k : Fin 12) : t.slots[k] = if k = i then
      { s.slots[i] with openCtxs := s.slots[i].openCtxs ++ [x] } else s.slots[k] := put_fin ..
  have ctx (y : Fin 4) : t.ctxs[y] =
      if y = x then some (openedClaim i s.slots[i].gen p j) else s.ctxs[y] := put_fin ..
  have kept (k : Fin 12) : t.slots[k].state = s.slots[k].state ∧ t.slots[k].gen = s.slots[k].gen ∧
      t.slots[k].segMap = s.slots[k].segMap := by
    rw [slot]
    split
    next same => subst same; exact ⟨rfl, rfl, rfl⟩
    · exact ⟨rfl, rfl, rfl⟩
  have old {y : Fin 4} {c : Claim} (claim : s.ctxs[y] = some c) : t.ctxs[y] = some c := by
    rw [ctx, if_neg, claim]
    rintro rfl
    rw [idle] at claim
    cases claim
  constructor
  case claims =>
    intro y c claim
    obtain ⟨kstate, kgen, kmap⟩ := kept c.slot
    rw [kstate, kgen, kmap]
    rw [Option.mem_def, ctx] at claim
    split at claim
    next same =>
      cases claim
      subst same
      refine ⟨state, rfl, unmatched, fun z d other same seg => ?_⟩
      rw [Option.mem_def, ctx] at other
      split at other
      next zx => exact zx
      next => exact absurd seg (alone z d other same)
    next ne =>
      obtain ⟨state', gen, unmatched', alone'⟩ := h.claims y c claim
      refine ⟨state', gen, unmatched', fun z d other same seg => ?_⟩
      rw [Option.mem_def, ctx] at other
      split at other
      next => cases other; exact absurd seg.symm (alone y c claim same.symm)
      next => exact alone' z d other same seg
  case openCtxs =>
    intro k
    obtain ⟨distinct, names⟩ := h.openCtxs k
    rw [slot]
    split
    next same =>
      subst same
      have fresh : x ∉ s.slots[k].openCtxs := by
        rw [names]
        rintro ⟨c, claim, -⟩
        rw [idle] at claim
        cases claim
      refine ⟨List.nodup_append.2 ⟨distinct, List.nodup_singleton x, ?_⟩, fun y => ?_⟩
      · rintro a ha b hb rfl
        rw [List.mem_singleton.1 hb] at ha
        exact fresh ha
      · rw [List.mem_append, List.mem_singleton, names, ctx]
        by_cases yx : y = x
        · simp [yx, openedClaim]
        · simp [yx]
    next ne =>
      refine ⟨distinct, fun y => (names y).trans ?_⟩
      rw [ctx]
      by_cases yx : y = x
      · simp [yx, idle, openedClaim, Ne.symm ne]
      · simp [yx]
  case queued =>
    intro ch mem
    obtain ⟨c, claim, same⟩ := h.queued ch mem
    exact ⟨c, old claim, same⟩
  case coreChunk =>
    intro ch taken
    obtain ⟨newer, standing⟩ := h.coreChunk ch taken
    obtain ⟨kstate, kgen, -⟩ := kept ch.slot
    rw [kgen, Slot.live_of_state kstate]
    refine ⟨newer, fun l g => ?_⟩
    obtain ⟨c, claim, same⟩ := standing l g
    exact ⟨c, old claim, same⟩
  case counted =>
    intro y c claim
    rw [Option.mem_def, ctx] at claim
    split at claim
    next same =>
      subst same
      cases claim
      have none_queued : s.chunkQueue.countP (fun ch => ch.ctx == y) = 0 := by
        rw [List.countP_eq_zero]
        intro ch mem
        obtain ⟨c, claim, -⟩ := h.queued ch mem
        rw [beq_iff_eq]
        rintro rfl
        rw [idle] at claim
        cases claim
      have none_in_core : (match s.core with
          | some ch => if ch.ctx = y ∧ ch.slot = i ∧ ch.gen = s.slots[i].gen then 1 else 0
          | none => 0) = 0 := by
        split
        next ch taken =>
          refine if_neg ?_
          rintro ⟨rfl, rfl, gen⟩
          obtain ⟨c, claim, -⟩ := (h.coreChunk ch taken).2
            ((Slot.live_iff _).2 (state.imp_right id |>.elim (fun e => .inr (.inl e)) fun e => .inr (.inr e)))
            gen.symm
          rw [idle] at claim
          cases claim
        · rfl
      exact (congrArg₂ (· + ·) none_queued none_in_core).symm
    next => exact h.counted y c claim
  case details => exact h.details

end Sys2Proof.Machine
end

section
/-! SUPPORT. Chunks queued, taken, folded and discarded, and the contexts that complete (R38 to R54). -/

namespace Sys2Proof.Machine

/-- The count of a claim's chunk in the core. -/
def inCore (core : Option Chunk) (y : Fin 4) (e : Claim) : Nat :=
  match core with
  | some ch => if ch.ctx = y ∧ ch.slot = e.slot ∧ ch.gen = e.gen then 1 else 0
  | none => 0

theorem State.WorkSound.counts {s : State} (h : s.WorkSound) {y : Fin 4} {e : Claim}
    (claim : s.ctxs[y] = some e) :
    e.pendingChunks = (s.chunkQueue.countP fun ch => ch.ctx == y) + inCore s.core y e :=
  h.counted y e claim

/-- A chunk joins the tail of the queue, and its claim counts it (R46). -/
theorem State.WorkSound.queues {s : State} (h : s.WorkSound) {x : Fin 4} {c : Claim}
    (claim : s.ctxs[x] = some c) (data : List Byte) :
    ({ s.setCtx x (some { c with received := c.received + data.length,
                                 pendingChunks := c.pendingChunks + 1 }) with
      chunkQueue := s.chunkQueue ++
        [{ ctx := x, slot := c.slot, gen := c.gen, offset := c.received, data := data }] } :
      State).WorkSound := by
  refine h.recount (d := { c with received := c.received + data.length,
                                  pendingChunks := c.pendingChunks + 1 })
    claim ⟨rfl, rfl, rfl⟩ rfl rfl rfl (fun ch mem => ?_) (fun _ mem => mem) fun y e he => ?_
  · rw [List.mem_append, List.mem_singleton] at mem
    refine mem.imp_right ?_
    rintro rfl
    exact ⟨rfl, rfl, rfl⟩
  · simp only [State.setCtx_ctxs, put_fin] at he
    rw [List.countP_append, List.countP_singleton]
    split at he
    next same =>
      subst same
      cases he
      have count := h.counts claim
      change c.pendingChunks + 1 = _ + _ + inCore s.core y c
      rw [if_pos (beq_self_eq_true y)]
      omega
    next ne =>
      have count := h.counts he
      change e.pendingChunks = _ + _ + inCore s.core y e
      rw [if_neg fun same => ne (beq_iff_eq.1 same).symm]
      omega

/-- The idle core takes the oldest chunk (R39). -/
theorem State.WorkSound.takes {s : State} (h : s.WorkSound) {ch : Chunk} {rest : List Chunk}
    (idle : s.core = none) (oldest : s.chunkQueue = ch :: rest) :
    ({ s with core := some ch, chunkQueue := rest } : State).WorkSound := by
  have mem : ch ∈ s.chunkQueue := oldest ▸ List.mem_cons_self
  refine { h with queued := fun k hk => h.queued k (oldest ▸ List.mem_cons_of_mem _ hk),
                  coreChunk := ?_, counted := fun y e claim => ?_ }
  · rintro k ⟨⟩
    obtain ⟨c, claim, slot, gen⟩ := h.queued ch mem
    obtain ⟨-, slotGen, -⟩ := h.claims ch.ctx c claim
    simp only [slot] at slotGen
    exact ⟨by rw [slotGen, gen], fun _ _ => ⟨c, claim, slot, gen⟩⟩
  · have count := h.counts claim
    rw [oldest, idle, List.countP_cons] at count
    simp only [inCore] at count
    rw [count]
    by_cases ctx : ch.ctx = y
    · subst ctx
      obtain ⟨slot, gen⟩ := h.queued_claim mem claim
      simp [slot, gen]
    · simp [ctx]

theorem State.WorkSound.coreTake {s : State} (h : s.WorkSound) : s.coreTake.WorkSound := by
  unfold State.coreTake
  split
  next idle oldest => exact h.takes idle oldest
  · exact h

theorem State.chunkClaim_eq_some {s : State} {ch : Chunk} {c : Claim} :
    s.chunkClaim ch = some c ↔ s.ctxs[ch.ctx] = some c ∧ c.slot = ch.slot ∧ c.gen = ch.gen := by
  rw [State.chunkClaim, Option.filter_eq_some_iff, Bool.and_eq_true, beq_iff_eq, beq_iff_eq]

/-- A chunk whose claim is gone leaves the core and changes no count (R40, R55). -/
theorem State.WorkSound.discards {s : State} (h : s.WorkSound) {ch : Chunk} (taken : s.core = some ch)
    (gone : s.chunkClaim ch = none) : ({ s with core := none } : State).WorkSound := by
  refine { h with coreChunk := nofun, counted := fun y e claim => ?_ }
  have count := h.counts claim
  rw [taken] at count
  rw [count]
  refine congrArg _ (if_neg ?_)
  rintro ⟨rfl, slot, gen⟩
  rw [State.chunkClaim_eq_some (s := s).2 ⟨claim, slot.symm, gen.symm⟩] at gone
  cases gone

/-- A chunk folded into its claim leaves the core, and the claim counts one less (R40). -/
theorem State.WorkSound.folds {s : State} (h : s.WorkSound) {ch : Chunk} {c : Claim}
    (taken : s.core = some ch) (stands : s.chunkClaim ch = some c) :
    (({ s with core := none } : State).setCtx ch.ctx (some (c.fold ch))).WorkSound := by
  obtain ⟨claim, slot, gen⟩ := State.chunkClaim_eq_some.1 stands
  refine h.recount (d := c.fold ch) claim ⟨rfl, rfl, rfl⟩ rfl rfl rfl (fun _ mem => .inl mem) nofun
    fun y e he => ?_
  simp only [State.setCtx_ctxs, put_fin] at he
  split at he
  next same =>
    subst same
    cases he
    have count := h.counts claim
    simp only [taken, inCore, slot, gen, and_self, if_true] at count
    simp only [Claim.fold, count]
    exact Nat.add_sub_cancel _ _
  next ne =>
    have count := h.counts he
    rw [taken] at count
    rw [count]
    exact congrArg _ (if_neg fun k => ne k.1.symm)

/-- A slot whose segment has matched in a context: the mark is set, and the open-context list forgets the
context (R21). -/
def Slot.marked (x : Slot) (seg : Nat) (ctx : Fin 4) : Slot :=
  { x with segMap := x.segMap.set seg true, openCtxs := x.openCtxs.filter fun o => o != ctx }

/-- A context that completes without a chunk left marks its segment, and its slot's list forgets it (R21). -/
theorem State.WorkSound.matched {s : State} (h : s.WorkSound) {x : Fin 4} {c : Claim}
    (claim : s.ctxs[x] = some c) (done : c.pendingChunks = 0) :
    ((s.setCtx x none).setSlot c.slot (s.slots[c.slot].marked c.seg x)).WorkSound := by
  set y := s.slots[c.slot].marked c.seg x with hy
  set t := (s.setCtx x none).setSlot c.slot y with ht
  have slot (k : Fin 12) : t.slots[k] = if k = c.slot then y else s.slots[k] := put_fin ..
  have ctx (z : Fin 4) : t.ctxs[z] = if z = x then none else s.ctxs[z] := put_fin ..
  have kept (k : Fin 12) : t.slots[k].state = s.slots[k].state ∧ t.slots[k].gen = s.slots[k].gen := by
    rw [slot]
    split
    next same => subst same; exact ⟨rfl, rfl⟩
    · exact ⟨rfl, rfl⟩
  have counts := h.counts claim
  rw [done] at counts
  have unqueued : ∀ ch ∈ s.chunkQueue, ch.ctx ≠ x := by
    have zero : s.chunkQueue.countP (fun ch => ch.ctx == x) = 0 := by omega
    intro ch mem
    simpa using (List.countP_eq_zero.1 zero) ch mem
  have idleCore : inCore s.core x c = 0 := by omega
  obtain ⟨-, -, -, alone⟩ := h.claims x c claim
  constructor
  case claims =>
    intro z e he
    rw [Option.mem_def, ctx] at he
    split at he
    · cases he
    next ne =>
      obtain ⟨state, gen, unmatched, alone'⟩ := h.claims z e he
      obtain ⟨kstate, kgen⟩ := kept e.slot
      rw [kstate, kgen]
      refine ⟨state, gen, ?_, fun w f hf same seg => ?_⟩
      · rw [slot]
        split
        next same =>
          have seg : c.seg ≠ e.seg := fun seg => ne (alone z e he same seg.symm)
          simp only [hy, Slot.marked, List.getD_eq_getElem?_getD, List.getElem?_set_ne seg]
          simp only [List.getD_eq_getElem?_getD, same] at unmatched
          exact unmatched
        · exact unmatched
      · rw [Option.mem_def, ctx] at hf
        split at hf
        · cases hf
        · exact alone' w f hf same seg
  case openCtxs =>
    intro k
    obtain ⟨distinct, names⟩ := h.openCtxs k
    rw [slot]
    split
    next same =>
      subst same
      refine ⟨distinct.filter _, fun z => ?_⟩
      rw [hy, Slot.marked, List.mem_filter, names, ctx, bne_iff_ne]
      by_cases zx : z = x <;> simp [zx]
    next ne =>
      refine ⟨distinct, fun z => (names z).trans ?_⟩
      rw [ctx]
      by_cases zx : z = x
      · subst zx
        simp [claim, Ne.symm ne]
      · simp [zx]
  case queued =>
    intro ch mem
    rw [ctx, if_neg (unqueued ch mem)]
    exact h.queued ch mem
  case coreChunk =>
    intro ch taken
    have held : s.core = some ch := taken
    obtain ⟨newer, standing⟩ := h.coreChunk ch taken
    obtain ⟨kstate, kgen⟩ := kept ch.slot
    rw [kgen, Slot.live_of_state kstate]
    refine ⟨newer, fun l g => ?_⟩
    obtain ⟨e, he, eslot, egen⟩ := standing l g
    have ne : ch.ctx ≠ x := by
      rintro rfl
      obtain rfl : c = e := Option.some.inj (claim.symm.trans he)
      simp [inCore, held, eslot, egen] at idleCore
    rw [ctx, if_neg ne]
    exact ⟨e, he, eslot, egen⟩
  case counted =>
    intro z e he
    rw [Option.mem_def, ctx] at he
    split at he
    · cases he
    · exact h.counts he
  case details => exact h.details

/-- A rejection releases the contexts of its slot, whatever one of them held (R18, R53). -/
theorem State.setCtx_none_reject {s : State} {x : Fin 4} {c : Claim} (claim : s.ctxs[x] = some c)
    (live : s.slots[c.slot].live = true) (r : FaultCode) (g : Option Byte) (k : Option (Fin 10))
    (d : List Byte) : (s.setCtx x none).reject c.slot r g k d = s.reject c.slot r g k d := by
  have released : (tabulate fun y => (put s.ctxs x none)[y].filter fun e => e.slot != c.slot) =
      tabulate fun y => s.ctxs[y].filter fun e => e.slot != c.slot := by
    congr 1
    funext y
    rw [put_fin]
    split
    next same => subst same; rw [claim, Option.filter_some, if_neg (by simp)]; rfl
    · rfl
  have lives : (s.setCtx x none).slots[c.slot].live = true := live
  simp only [State.reject]
  rw [if_pos lives, if_pos live]
  simp only [State.release, State.setCtx, released]

/-- A full map leaves no segment that a claim could be for (R21, R42). -/
theorem State.WorkSound.full_unclaimed {s : State} (h : s.WorkSound) {i : Fin 12}
    (parsed : ∀ p ∈ s.slots[i].parsed, s.slots[i].segMap.length = p.segCount)
    (full : s.slots[i].mapFull = true) (x : Fin 4) (c : Claim) (claim : s.ctxs[x] = some c) :
    c.slot ≠ i := by
  rintro rfl
  obtain ⟨-, -, unmatched, -⟩ := h.claims x c claim
  unfold Slot.mapFull at full
  split at full
  next p hp =>
    rw [beq_iff_eq, matchedCount, ← parsed p hp, List.countP_eq_length] at full
    rw [List.getD_eq_getElem?_getD] at unmatched
    cases e : s.slots[c.slot].segMap[c.seg]? with
    | none => rw [e] at unmatched; cases unmatched
    | some b =>
      rw [e] at unmatched
      have marked := full b (List.mem_of_getElem? e)
      simp only [Option.getD_some] at unmatched
      rw [unmatched] at marked
      cases marked
  · cases full

end Sys2Proof.Machine
end

section
/-! SUPPORT. The slots as the class table knows them, kept by claims, rejections, drops, wins and closed
classes (Chapters 1 and 7). -/

namespace Sys2Proof.Machine

theorem State.TablesSound.same {s t : State} (h : s.TablesSound) (slots : t.slots = s.slots)
    (classes : t.classes = s.classes) (mode : t.mode = s.mode) : t.TablesSound := by
  constructor
  · rw [slots]; exact h.owned
  · rw [slots]; exact h.parsed
  · rw [slots, classes, mode]; exact h.live
  · rw [slots, classes]; exact h.won
  · rw [classes]; exact h.winner
  · rw [slots, classes]; exact h.generations

/-- No slot is claimed and no class is won. -/
theorem State.tablesSound_of_freed {s : State} (slots : ∀ i : Fin 12, s.slots[i] = Slot.freed 0)
    (classes : ∀ c : Fin 8, s.classes[c].state ≠ .verified) : s.TablesSound := by
  constructor
  · intro i claimed
    rw [slots] at claimed
    exact absurd rfl claimed
  · intro i p parsed
    rw [slots] at parsed
    cases parsed
  · intro i live
    rw [slots] at live
    cases live
  · intro c i
    rw [slots]
    exact ⟨fun won => (nomatch won.1), fun won => absurd won.1 (classes c)⟩
  · exact fun c won => absurd won (classes c)
  · have none (i : Fin 12) : s.slots[i].gen.toNat = 0 := by rw [slots]; rfl
    rw [List.map_congr_left fun i _ => none i]
    simp

/-- A live slot's class is PENDING and has no VERIFIED slot (R110). -/
theorem State.TablesSound.pending {s : State} (h : s.TablesSound) {i : Fin 12} {c : Fin 8}
    (live : s.slots[i].live = true) (cls : s.slots[i].cls = some c) :
    s.mode = .verify ∧ s.classes[c].state = .pending ∧
      ∀ j : Fin 12, ¬(s.slots[j].state = .verified ∧ s.slots[j].cls = some c) := by
  obtain ⟨mode, d, cls', pending⟩ := h.live i live
  obtain rfl : c = d := Option.some.inj (cls.symm.trans cls')
  refine ⟨mode, pending, fun j won => ?_⟩
  obtain ⟨verified, -⟩ := (h.won c j).1 won
  rw [pending] at verified
  cases verified

/-- Live slots rejected and PENDING classes closed: what rejections, exhaustion, a decline, expiry and the
entry to SETTLED come to (R16, R17, R111, R114, R121, R134). -/
theorem State.TablesSound.rejects {s t : State} (h : s.TablesSound)
    (slots : ∀ j : Fin 12, t.slots[j] = s.slots[j] ∨
      s.slots[j].live = true ∧ ∃ r, t.slots[j] = s.slots[j].rejectedFor r)
    (classes : ∀ c : Fin 8, t.classes[c] = s.classes[c] ∨
      s.classes[c].state = .pending ∧ ∃ st, st ≠ .verified ∧
        t.classes[c] = { s.classes[c] with state := st })
    (live : ∀ j : Fin 12, t.slots[j].live = true →
      t.mode = .verify ∧ ∃ c, t.slots[j].cls = some c ∧ t.classes[c].state = .pending) :
    t.TablesSound := by
  have same (j : Fin 12) : t.slots[j].cls = s.slots[j].cls ∧ t.slots[j].owner = s.slots[j].owner ∧
      t.slots[j].gen = s.slots[j].gen ∧ t.slots[j].parsed = s.slots[j].parsed ∧
      t.slots[j].segMap = s.slots[j].segMap ∧
      (t.slots[j].state = .verified ↔ s.slots[j].state = .verified) ∧
      (t.slots[j].state ≠ .free → s.slots[j].state ≠ .free) := by
    rcases slots j with e | ⟨l, r, e⟩ <;> rw [e]
    · exact ⟨rfl, rfl, rfl, rfl, rfl, Iff.rfl, id⟩
    · refine ⟨rfl, rfl, rfl, rfl, rfl, ⟨nofun, fun v => ?_⟩, fun _ f => ?_⟩ <;>
        rw [Slot.live_iff] at l <;> simp_all
  have wins (c : Fin 8) : (t.classes[c].state = .verified ↔ s.classes[c].state = .verified) ∧
      t.classes[c].verifiedSlot = s.classes[c].verifiedSlot ∧
      t.classes[c].attempts = s.classes[c].attempts := by
    rcases classes c with e | ⟨p, st, ne, e⟩ <;> rw [e]
    · exact ⟨Iff.rfl, rfl, rfl⟩
    · rw [p]
      exact ⟨⟨fun v => absurd v ne, nofun⟩, rfl, rfl⟩
  constructor
  case owned =>
    intro i claimed
    obtain ⟨cls, owner, -, -, -, -, free⟩ := same i
    rw [cls, owner]
    exact h.owned i (free claimed)
  case parsed =>
    intro i p hp
    obtain ⟨-, -, -, parsed, map, -, -⟩ := same i
    rw [map]
    exact h.parsed i p (parsed ▸ hp)
  case live => exact live
  case won =>
    intro c i
    obtain ⟨cls, -, -, -, -, verified, -⟩ := same i
    obtain ⟨state, slot, -⟩ := wins c
    rw [cls, verified, state, slot]
    exact h.won c i
  case winner =>
    intro c won
    obtain ⟨state, slot, -⟩ := wins c
    rw [slot]
    exact h.winner c (state.1 won)
  case generations =>
    rw [List.map_congr_left fun i _ => congrArg BitVec.toNat (same i).2.2.1,
      List.map_congr_left fun c _ => (wins c).2.2]
    exact h.generations

/-- A live slot enters VERIFIED and its class with it, whose other live slots are rejected (R19, R110). -/
theorem State.TablesSound.wins {s t : State} (h : s.TablesSound) {i : Fin 12} {c : Fin 8} {r : FaultCode}
    (live : s.slots[i].live = true) (cls : s.slots[i].cls = some c)
    (slot : t.slots[i] = { s.slots[i] with state := .verified, sig := .passed })
    (others : ∀ j : Fin 12, j ≠ i → t.slots[j] =
      if s.slots[j].live = true ∧ s.slots[j].cls = some c then s.slots[j].rejectedFor r
      else s.slots[j])
    (classes : t.classes =
      put s.classes c { s.classes[c] with state := .verified, verifiedSlot := some i })
    (mode : t.mode = s.mode) : t.TablesSound := by
  obtain ⟨verify, pending, unwon⟩ := h.pending live cls
  have cl (d : Fin 8) : t.classes[d] = if d = c then
      { s.classes[c] with state := .verified, verifiedSlot := some i } else s.classes[d] := by
    rw [classes]; exact put_fin ..
  have same (j : Fin 12) : t.slots[j].cls = s.slots[j].cls ∧ t.slots[j].owner = s.slots[j].owner ∧
      t.slots[j].gen = s.slots[j].gen ∧ t.slots[j].parsed = s.slots[j].parsed ∧
      t.slots[j].segMap = s.slots[j].segMap ∧
      (t.slots[j].state ≠ .free → s.slots[j].state ≠ .free) := by
    by_cases ji : j = i
    · subst ji
      rw [slot]
      refine ⟨rfl, rfl, rfl, rfl, rfl, fun _ f => ?_⟩
      rw [Slot.live_iff] at live
      simp_all
    · rw [others j ji]
      split
      next l =>
        refine ⟨rfl, rfl, rfl, rfl, rfl, fun _ f => ?_⟩
        have l := (Slot.live_iff _).1 l.1
        simp_all
      · exact ⟨rfl, rfl, rfl, rfl, rfl, id⟩
  constructor
  case owned =>
    intro j claimed
    obtain ⟨cls, owner, -, -, -, free⟩ := same j
    rw [cls, owner]
    exact h.owned j (free claimed)
  case parsed =>
    intro j p hp
    obtain ⟨-, -, -, parsed, map, -⟩ := same j
    rw [map]
    exact h.parsed j p (parsed ▸ hp)
  case live =>
    intro j l
    rw [mode]
    by_cases ji : j = i
    · subst ji
      rw [slot] at l
      cases l
    · rw [others j ji] at l ⊢
      split at l
      · cases l
      next ne =>
        rw [if_neg ne]
        obtain ⟨m, d, hd, p⟩ := h.live j l
        refine ⟨m, d, hd, ?_⟩
        rw [cl, if_neg (by rintro rfl; exact ne ⟨l, hd⟩)]
        exact p
  case won =>
    intro d j
    obtain ⟨hc, -⟩ := same j
    rw [hc, cl]
    by_cases ji : j = i
    · subst ji
      rw [slot, cls]
      by_cases dc : d = c
      · subst dc
        simp
      · have foreign := h.won d j
        simp only [cls] at foreign
        simpa [dc, Ne.symm dc] using foreign
    · have verified : t.slots[j].state = .verified ↔ s.slots[j].state = .verified := by
        rw [others j ji]
        split
        next l =>
          have l := (Slot.live_iff _).1 l.1
          exact ⟨nofun, fun v => by simp_all⟩
        · exact Iff.rfl
      rw [verified]
      by_cases dc : d = c
      · subst dc
        rw [if_pos rfl]
        refine ⟨fun won => absurd won (unwon j), fun won => ?_⟩
        exact absurd (Option.some.inj won.2).symm ji
      · rw [if_neg dc]
        exact h.won d j
  case winner =>
    intro d won
    rw [cl] at won ⊢
    split
    · rfl
    next dc =>
      rw [if_neg dc] at won
      exact h.winner d won
  case generations =>
    have attempts (d : Fin 8) : t.classes[d].attempts = s.classes[d].attempts := by
      rw [cl]
      split
      next same => subst same; rfl
      · rfl
    rw [List.map_congr_left fun j _ => congrArg BitVec.toNat (same j).2.2.1,
      List.map_congr_left fun d _ => attempts d]
    exact h.generations

/-- A slot replaced by one of its class, owner and generation, as live as it was and as little VERIFIED. -/
theorem State.TablesSound.setSlot {s : State} (h : s.TablesSound) {i : Fin 12} {y : Slot}
    (same : y.cls = s.slots[i].cls ∧ y.owner = s.slots[i].owner ∧ y.gen = s.slots[i].gen)
    (old : s.slots[i].live = true) (new : y.live = true)
    (parsed : ∀ p ∈ y.parsed, y.segMap.length = p.segCount ∧ p.label.length = 28) :
    (s.setSlot i y).TablesSound := by
  obtain ⟨cls, owner, gen⟩ := same
  have slot (j : Fin 12) : (s.setSlot i y).slots[j] = if j = i then y else s.slots[j] := put_fin ..
  have live_ne {x : Slot} (l : x.live = true) : x.state ≠ .free ∧ x.state ≠ .verified := by
    rw [Slot.live_iff] at l
    exact ⟨by rintro e; simp [e] at l, by rintro e; simp [e] at l⟩
  constructor
  case owned =>
    intro j claimed
    rw [slot] at claimed ⊢
    split
    next e => subst e; rw [cls, owner]; exact h.owned j (live_ne old).1
    next ne => rw [if_neg ne] at claimed; exact h.owned j claimed
  case parsed =>
    intro j p hp
    rw [slot] at hp ⊢
    split
    next e => rw [if_pos e] at hp; exact parsed p hp
    next ne => rw [if_neg ne] at hp; exact h.parsed j p hp
  case live =>
    intro j l
    rw [slot] at l ⊢
    split
    next e => subst e; rw [cls]; exact h.live j old
    next ne => rw [if_neg ne] at l; exact h.live j l
  case won =>
    intro c j
    rw [slot]
    split
    next e =>
      subst e
      refine Iff.trans ?_ (h.won c j)
      exact ⟨fun w => absurd w.1 (live_ne new).2, fun w => absurd w.1 (live_ne old).2⟩
    · exact h.won c j
  case winner => exact h.winner
  case generations =>
    have gens (j : Fin 12) : (s.setSlot i y).slots[j].gen = s.slots[j].gen := by
      rw [slot]
      split
      next e => subst e; exact gen
      · rfl
    rw [List.map_congr_left fun j _ => congrArg BitVec.toNat (gens j)]
    exact h.generations

/-- A slot that is not VERIFIED becomes FREE and keeps its generation (R23). -/
theorem State.TablesSound.frees {s t : State} (h : s.TablesSound) {i : Fin 12}
    (unwon : s.slots[i].state ≠ .verified) (slots : ∀ j : Fin 12, t.slots[j] =
      if j = i then Slot.freed s.slots[i].gen else s.slots[j])
    (classes : t.classes = s.classes) (mode : t.mode = s.mode) : t.TablesSound := by
  constructor
  case owned =>
    intro j claimed
    rw [slots] at claimed ⊢
    split
    next e => rw [if_pos e] at claimed; exact absurd rfl claimed
    next ne => rw [if_neg ne] at claimed; exact h.owned j claimed
  case parsed =>
    intro j p hp
    rw [slots] at hp ⊢
    split
    next e => rw [if_pos e] at hp; cases hp
    next ne => rw [if_neg ne] at hp; exact h.parsed j p hp
  case live =>
    intro j l
    rw [slots] at l ⊢
    rw [classes, mode]
    split
    next e => rw [if_pos e] at l; cases l
    next ne => rw [if_neg ne] at l; exact h.live j l
  case won =>
    intro c j
    rw [slots, classes]
    split
    next e =>
      subst e
      rw [← h.won c j]
      exact ⟨fun w => (nomatch w.1), fun w => absurd w.1 unwon⟩
    · exact h.won c j
  case winner => rw [classes]; exact h.winner
  case generations =>
    have gens (j : Fin 12) : t.slots[j].gen = s.slots[j].gen := by
      rw [slots]
      split
      next e => subst e; rfl
      · rfl
    rw [classes, List.map_congr_left fun j _ => congrArg BitVec.toNat (gens j)]
    exact h.generations

/-- One entry of a table raised raises the table's sum. -/
theorem sum_finRange_succ_at {n : Nat} {f g : Fin n → Nat} (i : Fin n)
    (at_i : ∀ j, f j = if j = i then g i + 1 else g j) :
    ((List.finRange n).map f).sum = ((List.finRange n).map g).sum + 1 := by
  have split (j : Fin n) : f j = g j + if j = i then 1 else 0 := by
    rw [at_i]
    by_cases e : j = i <;> simp [e]
  simp only [← Fin.sum_univ_def, split, Finset.sum_add_distrib, Finset.sum_ite_eq', Finset.mem_univ,
    if_true]

theorem le_sum_finRange {n : Nat} (f : Fin n → Nat) (i : Fin n) :
    f i ≤ ((List.finRange n).map f).sum := by
  rw [← Fin.sum_univ_def]
  exact Finset.single_le_sum (f := f) (fun _ _ => Nat.zero_le _) (Finset.mem_univ i)

/-- A generation stays far below its byte's end: 24 attempts are charged at most (R3, R107). -/
theorem State.TablesSound.gen_le {s : State} (h : s.TablesSound)
    (attempts : ∀ c : Fin 8, s.classes[c].attempts ≤ 3) (i : Fin 12) : s.slots[i].gen.toNat ≤ 24 := by
  have charged : ((List.finRange 8).map fun c => s.classes[c].attempts).sum ≤ 24 := by
    refine (List.sum_le_card_nsmul _ 3 ?_).trans (by simp)
    simpa using attempts
  exact ((le_sum_finRange (fun i => s.slots[i].gen.toNat) i).trans h.generations).trans charged

/-- SLOT_OPEN claims a FREE slot for a PENDING class and charges it an attempt (R3, R6). -/
theorem State.TablesSound.opens {s : State} (h : s.TablesSound) {i : Fin 12} {c : Fin 8} (l : Link)
    (mode : s.mode = .verify) (pending : s.classes[c].state = .pending)
    (free : s.slots[i].state = .free) (gen : s.slots[i].gen.toNat ≤ 24) :
    ((s.setSlot i (s.slots[i].opened c l)).setClass c
      { s.classes[c] with attempts := s.classes[c].attempts + 1 }).TablesSound := by
  set y := s.slots[i].opened c l with hy
  set t := (s.setSlot i y).setClass c { s.classes[c] with attempts := s.classes[c].attempts + 1 } with ht
  have slot (j : Fin 12) : t.slots[j] = if j = i then y else s.slots[j] := put_fin ..
  have cl (d : Fin 8) : t.classes[d] = if d = c then
      { s.classes[c] with attempts := s.classes[c].attempts + 1 } else s.classes[d] := put_fin ..
  have states (d : Fin 8) : t.classes[d].state = s.classes[d].state ∧
      t.classes[d].verifiedSlot = s.classes[d].verifiedSlot := by
    rw [cl]
    split
    next e => subst e; exact ⟨rfl, rfl⟩
    · exact ⟨rfl, rfl⟩
  constructor
  case owned =>
    intro j claimed
    rw [slot] at claimed ⊢
    split
    · exact ⟨rfl, rfl⟩
    next ne => rw [if_neg ne] at claimed; exact h.owned j claimed
  case parsed =>
    intro j p hp
    rw [slot] at hp ⊢
    split
    next e => rw [if_pos e] at hp; cases hp
    next ne => rw [if_neg ne] at hp; exact h.parsed j p hp
  case live =>
    intro j live
    rw [slot] at live ⊢
    split
    · refine ⟨mode, c, rfl, ?_⟩
      rw [(states c).1]
      exact pending
    next ne =>
      rw [if_neg ne] at live
      obtain ⟨m, d, hd, p⟩ := h.live j live
      refine ⟨m, d, hd, ?_⟩
      rw [(states d).1]
      exact p
  case won =>
    intro d j
    obtain ⟨state, verified⟩ := states d
    rw [slot, state, verified]
    split
    next e =>
      subst e
      rw [← h.won d j]
      refine ⟨fun w => (nomatch w.1), fun ⟨w, _⟩ => ?_⟩
      rw [free] at w
      cases w
    · exact h.won d j
  case winner =>
    intro d won
    obtain ⟨state, verified⟩ := states d
    rw [verified]
    exact h.winner d (state ▸ won)
  case generations =>
    have raised : y.gen.toNat = s.slots[i].gen.toNat + 1 := by
      have wrap : y.gen = s.slots[i].gen + 1 := rfl
      rw [wrap, BitVec.toNat_add, Nat.mod_eq_of_lt]
      · rfl
      · exact Nat.lt_of_le_of_lt (Nat.add_le_add_right gen _) (by decide)
    have slots := sum_finRange_succ_at (f := fun j => t.slots[j].gen.toNat)
      (g := fun j => s.slots[j].gen.toNat) i fun j => by
        simp only [slot]
        split
        · exact raised
        · rfl
    have classes := sum_finRange_succ_at (f := fun d => t.classes[d].attempts)
      (g := fun d => s.classes[d].attempts) c fun d => by
        simp only [cl]
        split <;> rfl
    rw [slots, classes]
    exact Nat.add_le_add_right h.generations 1

end Sys2Proof.Machine
end

section
/-! SUPPORT. The bookkeeping of the part beside its links, as every stage of an event keeps it, and what holds
again once an event has ended. -/

namespace Sys2Proof.Machine

/-- The bookkeeping that every stage of an event keeps: that of `State.Sound`, but for the links and for what
holds only between two events. -/
structure State.Booked (s : State) : Prop where
  chunks   : s.chunkQueue.length ≤ 8
  jobs     : s.jobs.length ≤ 6
  reserved : s.reserved = s.revoking.isSome
  buffers  : ∀ i : Fin 12, s.slots[i].buffer.length ≤ 8304
  attempts : ∀ c : Fin 8, s.classes[c].attempts ≤ 3
  failed   : s.failedCount ≤ 255
  timer    : s.window.running = true ↔ s.mode = .verify
  tick     : s.window.running = true → s.window.toTick.isSome = true
  selfTest : s.selfTest = true → s.mode = .startup
  startup  : s.mode = .startup → (∀ i : Fin 12, s.slots[i] = Slot.freed 0) ∧
    (∀ x : Fin 4, s.ctxs[x] = none) ∧ s.chunkQueue = [] ∧ s.core = none ∧ s.jobs = [] ∧
    s.active = none ∧ s.fuseOp = none ∧ s.reserved = false
  held     : s.deaf = true → s.mode = .startup ∧ s.selfTest = false
  tables   : s.TablesSound
  work     : s.WorkSound

/-- In VERIFY some line is HELD (R120). -/
def State.Undecided (s : State) : Prop := s.mode = .verify → ∃ i : Fin 6, s.lines[i].state = .held

/-- The core does not stay idle while the queue holds an entry (R39). -/
def State.CoreBusy (s : State) : Prop := s.core = none → s.chunkQueue = []

/-- The bookkeeping between two events, but for the links. -/
structure State.BodySound (s : State) : Prop where
  booked    : s.Booked
  undecided : s.Undecided
  core      : s.CoreBusy
  unit      : s.active = none → s.jobs = []

theorem State.Sound.bodySound {s : State} (h : s.Sound) : s.BodySound where
  booked := {
    chunks := h.chunks, jobs := h.jobs, reserved := h.reserved, buffers := h.buffers
    attempts := h.attempts, failed := h.failed, timer := h.timer, tick := h.tick
    selfTest := h.selfTest, startup := h.startup, tables := h.tables, work := h.work
    held := fun d => ⟨(h.links.held d).1, (h.links.held d).2.1⟩ }
  undecided := h.undecided
  core := h.core
  unit := h.unit

theorem State.BodySound.sound {s : State} (h : s.BodySound) (links : s.LinksSound) : s.Sound where
  chunks := h.booked.chunks
  core := h.core
  jobs := h.booked.jobs
  unit := h.unit
  reserved := h.booked.reserved
  buffers := h.booked.buffers
  attempts := h.booked.attempts
  failed := h.booked.failed
  timer := h.booked.timer
  tick := h.booked.tick
  undecided := h.undecided
  selfTest := h.booked.selfTest
  startup := h.booked.startup
  links := links
  tables := h.booked.tables
  work := h.booked.work

/-- A change of the links leaves the rest of the bookkeeping. -/
theorem State.SameBody.bodySound {s t : State} (same : s.SameBody t) (h : s.BodySound) :
    t.BodySound := by
  obtain ⟨_, _, _, _, _, _, _, rfl⟩ := same
  obtain ⟨booked, undecided, core, unit⟩ := h
  refine ⟨?_, undecided, core, unit⟩
  exact { booked with
    tables := booked.tables.same rfl rfl rfl, work := booked.work.same rfl rfl rfl rfl rfl }

/-! ### Moved slots -/

theorem State.Wanes.mode_ne {s t : State} (h : s.Wanes t) (mode : s.mode ≠ .startup) :
    t.mode ≠ .startup := by
  rcases h.mode with e | ⟨-, e⟩ <;> rw [e]
  · exact mode
  · exact nofun

theorem State.Wanes.coreBusy {s t : State} (h : s.Wanes t) (units : s.SameUnits t) (busy : s.CoreBusy) :
    t.CoreBusy := by
  intro idle
  obtain ⟨_, _, _, _, _, _, _, _, _, _, _, _, _, rfl⟩ := units
  have none := h.chunks
  rw [busy idle] at none
  exact List.sublist_nil.1 none

theorem State.Wanes.unit {s t : State} (h : s.Wanes t) (units : s.SameUnits t)
    (busy : s.active = none → s.jobs = []) (idle : t.active = none) : t.jobs = [] := by
  obtain ⟨_, _, _, _, _, _, _, _, _, _, _, _, _, rfl⟩ := units
  have none := h.jobs
  rw [busy idle] at none
  exact List.sublist_nil.1 none

/-- What an operation on slots, classes and lines keeps, given the tables, the work and the timer. -/
theorem State.Booked.wanes {s t : State} (h : s.Booked) (mode : s.mode ≠ .startup) (wanes : s.Wanes t)
    (units : s.SameUnits t) (tables : t.TablesSound) (work : t.WorkSound)
    (timer : t.mode = s.mode ∧ t.window = s.window ∨
      t.mode = .settled ∧ t.window.running = false) : t.Booked where
  chunks := wanes.chunks.length_le.trans h.chunks
  jobs := wanes.jobs.length_le.trans h.jobs
  reserved := by obtain ⟨_, _, _, _, _, _, _, _, _, _, _, _, _, rfl⟩ := units; exact h.reserved
  buffers i := by rw [wanes.buffers]; exact h.buffers i
  attempts c := by rw [wanes.attempts]; exact h.attempts c
  failed := by
    rcases wanes.failed with e | e <;> rw [e]
    · exact h.failed
    · exact Nat.zero_le _
  timer := by
    rcases timer with ⟨m, w⟩ | ⟨m, w⟩ <;> rw [m]
    · rw [w]; exact h.timer
    · rw [w]; exact ⟨nofun, nofun⟩
  tick running := by
    rcases timer with ⟨-, w⟩ | ⟨-, w⟩
    · rw [w] at running ⊢
      exact h.tick running
    · rw [w] at running
      cases running
  selfTest running := by
    obtain ⟨_, _, _, _, _, _, _, _, _, _, _, _, _, rfl⟩ := units
    exact absurd (h.selfTest running) mode
  startup m := absurd m (wanes.mode_ne mode)
  held deaf := by
    obtain ⟨_, _, _, _, _, _, _, _, _, _, _, _, _, rfl⟩ := units
    exact absurd (h.held deaf).1 mode
  tables := tables
  work := work

theorem State.Booked.live_mode {s : State} (h : s.Booked) {i : Fin 12}
    (live : s.slots[i].live = true) : s.mode = .verify := (h.tables.live i live).1

theorem State.Booked.live_ne {s : State} (h : s.Booked) {i : Fin 12}
    (live : s.slots[i].live = true) : s.mode ≠ .startup := by
  rw [h.live_mode live]
  exact nofun

theorem State.reject_tables {s : State} (h : s.TablesSound) {i : Fin 12}
    (live : s.slots[i].live = true) (r : FaultCode) (g : Option Byte) (k : Option (Fin 10))
    (d : List Byte) : (s.reject i r g k d).TablesSound := by
  have slot (j : Fin 12) : (s.reject i r g k d).slots[j] =
      if j = i then s.slots[i].rejectedFor r else s.slots[j] := by
    rw [State.reject_slots live]; exact put_fin ..
  refine h.rejects (fun j => ?_) (fun c => .inl (by simp)) fun j l => ?_
  · rw [slot]
    split
    next e => subst e; exact .inr ⟨live, r, rfl⟩
    · exact .inl rfl
  · rw [slot] at l ⊢
    split
    next e => rw [if_pos e] at l; cases l
    next ne =>
      rw [if_neg ne] at l
      simpa using h.live j l

/-- A live slot rejected (R16). -/
theorem State.Booked.reject {s : State} (h : s.Booked) {i : Fin 12} (live : s.slots[i].live = true)
    (r : FaultCode) (g : Option Byte) (k : Option (Fin 10)) (d : List Byte) :
    (s.reject i r g k d).Booked :=
  h.wanes (h.live_ne live) (s.reject_wanes i r g k d) (s.reject_sameUnits i r g k d)
    (State.reject_tables h.tables live r g k d) (h.work.reject live r g k d)
    (.inl ⟨by simp, by simp⟩)

theorem State.Booked.rejectAll {s : State} (h : s.Booked) {names : List (Fin 12)}
    (distinct : names.Nodup) (live : ∀ i ∈ names, s.slots[i].live = true) (r : FaultCode)
    (k : Option (Fin 10)) : (s.rejectAll names r k).Booked :=
  State.rejectAll_induction r k (fun _ _ b l => b.reject l r none k []) distinct live h

theorem State.Undecided.same {s t : State} (h : s.Undecided) (mode : t.mode = s.mode)
    (lines : t.lines = s.lines) : t.Undecided := by
  intro m
  rw [lines]
  exact h (mode ▸ m)

/-! ### The release gate -/

/-- A rejection order does not read the mode, the verdict, the timer or the failed-attempt count. -/
theorem State.rejectAll_withMode (mode : Mode) (verdict : Verdict) (window : Window) (failed : Nat)
    (names : List (Fin 12)) (r : FaultCode) (k : Option (Fin 10)) : ∀ s : State,
    ({ s with mode := mode, verdict := verdict, window := window, failedCount := failed } :
      State).rejectAll names r k =
    { s.rejectAll names r k with mode := mode, verdict := verdict, window := window,
                                 failedCount := failed } := by
  induction names with
  | nil => exact fun _ => rfl
  | cons i rest ih =>
    intro s
    have one : ({ s with mode := mode, verdict := verdict, window := window, failedCount := failed } :
        State).reject i r none k [] =
        { s.reject i r none k [] with mode := mode, verdict := verdict, window := window,
                                      failedCount := failed } := by
      simp only [State.reject]
      split <;> rfl
    exact (congrArg (fun t => State.rejectAll t rest r k) one).trans (ih _)

/-- The failed-attempt count that an entry to SETTLED leaves (R121). -/
def State.settledCount (s : State) : Nat :=
  if verdictOf s.lines = .printReady then 0 else s.failedCount

/-- The entry to SETTLED: every live slot rejected, then the mode, the verdict and the timer (R121). -/
theorem State.settle_eq (s : State) : s.settle =
    ({ s.rejectAll s.liveSlots .settledOut none with
        mode := .settled, verdict := verdictOf s.lines, window := s.window.stop,
        failedCount := s.settledCount } : State).post .settled := by
  have order := State.rejectAll_withMode .settled (verdictOf s.lines) s.window.stop s.settledCount
    s.liveSlots .settledOut none s
  exact congrArg (fun t => State.post t .settled) order

theorem State.settle_mode (s : State) : s.settle.mode = .settled := by rw [s.settle_eq]; rfl

theorem State.settle_window (s : State) : s.settle.window = s.window.stop := by rw [s.settle_eq]; rfl

theorem State.settle_work {s : State} (h : s.WorkSound) : s.settle.WorkSound := by
  obtain ⟨distinct, live⟩ := s.liveSlots_spec
  rw [s.settle_eq]
  exact (h.rejectAll distinct (fun i mem => (live i).1 mem) .settledOut none).same rfl rfl rfl rfl rfl

theorem State.settle_tables {s : State} (h : s.TablesSound) : s.settle.TablesSound := by
  refine h.rejects (fun j => ?_) (fun c => .inl (by simp)) fun j l => ?_
  · rw [s.settle_slots]
    split
    next l => exact .inr ⟨l, _, rfl⟩
    · exact .inl rfl
  · rw [s.settle_slots] at l
    split at l
    · cases l
    next ne => exact absurd l ne

/-- The part settles, in VERIFY, where no line is HELD, and is undecided where it does not (R120). -/
theorem State.Booked.settleIfDecided {s : State} (h : s.Booked) (mode : s.mode ≠ .startup) :
    s.settleIfDecided.Booked ∧ s.settleIfDecided.Undecided := by
  unfold State.settleIfDecided
  split
  next decided =>
    refine ⟨h.wanes mode (s.settle_wanes decided.1) ?_ (State.settle_tables h.tables)
      (State.settle_work h.work) (.inr ⟨s.settle_mode, by rw [s.settle_window]; rfl⟩),
      fun m => ?_⟩
    · have settled := s.settleIfDecided_sameUnits
      rwa [State.settleIfDecided, if_pos decided] at settled
    · rw [s.settle_mode] at m
      cases m
  next undecided =>
    refine ⟨h, fun m => ?_⟩
    have some_held : anyLine s.lines .held = true := by
      rw [← Bool.not_eq_false]
      exact fun none => undecided ⟨m, none⟩
    simpa [anyLine] using some_held

theorem State.Booked.moveLines {s : State} (h : s.Booked) (v : Vector LineRec 6) :
    (s.moveLines v).Booked := by
  unfold State.moveLines
  split
  · exact h
  · exact { h with
      tables := h.tables.same rfl rfl rfl, work := h.work.same rfl rfl rfl rfl rfl }

theorem State.Booked.gate {s : State} (h : s.Booked) (mode : s.mode ≠ .startup) :
    s.gate.Booked ∧ s.gate.Undecided := by
  have moved := h.moveLines (evaluatedLines s.classes s.lines)
  refine moved.settleIfDecided ?_
  rw [State.moveLines_mode]
  exact mode

/-- The exhausted classes close: they were PENDING, without a live slot (R111). -/
theorem State.Booked.closeExhausted {s : State} (b : State) (h : s.Booked) (mode : s.mode ≠ .startup) :
    (b.closeExhausted s).Booked ∧ (s.Undecided → (b.closeExhausted s).Undecided) := by
  have same : (b.closeExhausted s).slots = s.slots ∧ (b.closeExhausted s).ctxs = s.ctxs ∧
      (b.closeExhausted s).chunkQueue = s.chunkQueue ∧ (b.closeExhausted s).faults = s.faults ∧
      (b.closeExhausted s).mode = s.mode ∧ (b.closeExhausted s).window = s.window ∧
      (b.closeExhausted s).lines = s.lines := by
    unfold State.closeExhausted
    split <;> exact ⟨rfl, rfl, rfl, rfl, rfl, rfl, rfl⟩
  obtain ⟨slots, ctxs, chunks, faults, md, window, lines⟩ := same
  refine ⟨h.wanes mode (b.closeExhausted_wanes s) (b.closeExhausted_sameUnits s) ?_
    (h.work.same slots ctxs chunks (b.closeExhausted_core s) faults) (.inl ⟨md, window⟩),
    fun u => u.same md lines⟩
  have cl (c : Fin 8) := b.closeExhausted_classes s c
  refine h.tables.rejects (fun j => .inl (by rw [slots])) (fun c => ?_) fun j l => ?_
  · rw [cl]
    split
    next closes =>
      refine .inr ⟨((b.closes_iff s c).1 closes).2.1, _, ?_, rfl⟩
      split <;> exact nofun
    · exact .inl rfl
  · rw [slots] at l ⊢
    obtain ⟨m, c, hc, pending⟩ := h.tables.live j l
    refine ⟨md.trans m, c, hc, ?_⟩
    rw [cl, if_neg]
    · exact pending
    · intro closes
      exact ((b.closes_iff s c).1 closes).2.2.2 j l hc

/-- The end of an event that moved slots (R106, R112, R118). -/
theorem State.Booked.conclude {s : State} (b : State) (h : s.Booked) (undecided : s.Undecided)
    (mode : s.mode ≠ .startup) : (b.conclude s).Booked ∧ (b.conclude s).Undecided := by
  obtain ⟨booked, kept⟩ := h.closeExhausted b mode
  simp only [State.conclude]
  split
  · exact booked.gate ((b.closeExhausted_wanes s).mode_ne mode)
  · exact ⟨booked, kept undecided⟩

/-! ### Slots that verify -/

/-- A slot VERIFIED and its class with it, before the class's other slots are rejected (R19, R110). -/
def State.won (s : State) (i : Fin 12) (c : Fin 8) : State :=
  ((s.setSlot i { s.slots[i] with state := .verified, sig := .passed }).post .slotDone).setClass c
    { s.classes[c] with state := .verified, verifiedSlot := some i }

theorem State.verifySlot_eq {s : State} {i : Fin 12} {c : Fin 8} (cls : s.slots[i].cls = some c) :
    s.verifySlot i =
      ((s.won i c).rejectAll ((s.won i c).liveOfClass c) .classDoneLate none).post .classChange := by
  simp only [State.verifySlot]
  split
  next none => rw [none] at cls; cases cls
  next d some =>
    obtain rfl : d = c := Option.some.inj (some.symm.trans cls)
    rfl

theorem State.won_slots (s : State) (i : Fin 12) (c : Fin 8) (j : Fin 12) : (s.won i c).slots[j] =
    if j = i then { s.slots[i] with state := .verified, sig := .passed } else s.slots[j] := put_fin ..

/-- The slots that a slot's entry to VERIFIED leaves (R19, R110). -/
theorem State.verifySlot_slots {s : State} {i : Fin 12} {c : Fin 8} (cls : s.slots[i].cls = some c)
    (j : Fin 12) : (s.verifySlot i).slots[j] =
      if j = i then { s.slots[i] with state := .verified, sig := .passed }
      else if s.slots[j].live = true ∧ s.slots[j].cls = some c then
        s.slots[j].rejectedFor .classDoneLate
      else s.slots[j] := by
  obtain ⟨distinct, mem⟩ := (s.won i c).liveOfClass_spec c
  have order := State.rejectAll_slots .classDoneLate none distinct (fun k hk => ((mem k).1 hk).1) j
  rw [State.verifySlot_eq cls, State.post_slots, order]
  simp only [mem, s.won_slots]
  by_cases ji : j = i
  · rw [if_pos ji, if_pos ji, if_neg]
    exact fun l => nomatch l.1
  · rw [if_neg ji, if_neg ji]

theorem State.verifySlot_classes {s : State} {i : Fin 12} {c : Fin 8} (cls : s.slots[i].cls = some c) :
    (s.verifySlot i).classes =
      put s.classes c { s.classes[c] with state := .verified, verifiedSlot := some i } := by
  rw [State.verifySlot_eq cls, State.post_classes, State.rejectAll_classes]
  rfl

theorem State.verifySlot_mode (s : State) (i : Fin 12) : (s.verifySlot i).mode = s.mode := by
  simp only [State.verifySlot]
  split <;> simp

theorem State.verifySlot_lines (s : State) (i : Fin 12) : (s.verifySlot i).lines = s.lines := by
  simp only [State.verifySlot]
  split <;> simp

theorem State.verifySlot_window (s : State) (i : Fin 12) : (s.verifySlot i).window = s.window := by
  simp only [State.verifySlot]
  split <;> simp

/-- The work of a slot with a full map is done, so its entry to VERIFIED releases none (R19, R21). -/
theorem State.WorkSound.verifySlot {s : State} (h : s.WorkSound) {i : Fin 12}
    (unclaimed : ∀ (x : Fin 4) (c : Claim), s.ctxs[x] = some c → c.slot ≠ i) :
    (s.verifySlot i).WorkSound := by
  have verified : (s.setSlot i { s.slots[i] with state := .verified, sig := .passed }).WorkSound :=
    h.setSlot rfl rfl nofun fun x c claim same => absurd same (unclaimed x c claim)
  cases cls : s.slots[i].cls with
  | none =>
    have alone : s.verifySlot i =
        (s.setSlot i { s.slots[i] with state := .verified, sig := .passed }).post .slotDone := by
      simp only [State.verifySlot]
      split
      · rfl
      next some => rw [some] at cls; cases cls
    exact alone ▸ verified.same rfl rfl rfl rfl rfl
  | some c =>
    obtain ⟨distinct, mem⟩ := (s.won i c).liveOfClass_spec c
    have won : (s.won i c).WorkSound := verified.same rfl rfl rfl rfl rfl
    rw [State.verifySlot_eq cls]
    exact (won.rejectAll distinct (fun k hk => ((mem k).1 hk).1) .classDoneLate none).same
      rfl rfl rfl rfl rfl

theorem State.Booked.verifySlot {s : State} (h : s.Booked) {i : Fin 12}
    (live : s.slots[i].live = true) (full : s.slots[i].mapFull = true) :
    (s.verifySlot i).Booked := by
  obtain ⟨-, c, cls, -⟩ := h.tables.live i live
  have slot := State.verifySlot_slots cls
  refine h.wanes (h.live_ne live) (s.verifySlot_wanes i) (s.verifySlot_sameUnits i) ?_ ?_
    (.inl ⟨s.verifySlot_mode i, s.verifySlot_window i⟩)
  · refine h.tables.wins live cls (r := .classDoneLate) ?_ (fun j ji => ?_)
      (State.verifySlot_classes cls) (s.verifySlot_mode i)
    · rw [slot, if_pos rfl]
    · rw [slot, if_neg ji]
  · exact h.work.verifySlot (h.work.full_unclaimed (fun p hp => (h.tables.parsed i p hp).1) full)

/-- A live slot changed in what neither a claim nor the class table reads. -/
theorem State.Booked.setSlot {s : State} (h : s.Booked) {i : Fin 12} {y : Slot}
    (same : y.cls = s.slots[i].cls ∧ y.owner = s.slots[i].owner ∧ y.gen = s.slots[i].gen ∧
      y.openCtxs = s.slots[i].openCtxs)
    (old : s.slots[i].live = true) (new : y.live = true)
    (parsed : ∀ p ∈ y.parsed, y.segMap.length = p.segCount ∧ p.label.length = 28)
    (buffer : y.buffer.length ≤ 8304)
    (claimed : ∀ (x : Fin 4) (c : Claim), s.ctxs[x] = some c → c.slot = i →
      (y.state = .checking ∨ y.state = .signed) ∧ y.segMap = s.slots[i].segMap) :
    (s.setSlot i y).Booked := by
  obtain ⟨cls, owner, gen, openCtxs⟩ := same
  exact { h with
    buffers := fun j => by
      rw [State.setSlot_slots, put_fin]
      split
      · exact buffer
      · exact h.buffers j
    startup := fun m => absurd m (h.live_ne old)
    tables := h.tables.setSlot ⟨cls, owner, gen⟩ old new parsed
    work := h.work.setSlot openCtxs gen (fun _ => old) claimed }

end Sys2Proof.Machine
end

section
/-! SUPPORT. The bookkeeping of the part through the ends of jobs, chunks and burns (Chapters 3, 4 and 6). -/

namespace Sys2Proof.Machine

/-! ### The signature unit -/

theorem State.jobReport_mode (s : State) (i : Fin 12) (g : Byte) (r : JobResult) :
    (s.jobReport i g r).mode = s.mode := by
  unfold State.jobReport
  split
  · cases r with
    | pass =>
      simp only []
      split
      · exact s.verifySlot_mode i
      · rfl
    | fail => simp
    | keyRevokedAtStart => simp
  · rfl

theorem State.jobReport_lines (s : State) (i : Fin 12) (g : Byte) (r : JobResult) :
    (s.jobReport i g r).lines = s.lines := by
  unfold State.jobReport
  split
  · cases r with
    | pass =>
      simp only []
      split
      · exact s.verifySlot_lines i
      · rfl
    | fail => simp
    | keyRevokedAtStart => simp
  · rfl

theorem State.reportApplies_live {s : State} {i : Fin 12} {g : Byte}
    (h : s.reportApplies i g = true) : s.slots[i].live = true := by
  rw [State.reportApplies, Bool.and_eq_true] at h
  exact h.1

/-- A live slot whose signature outcome is written, SIGNED or as it was (R20). -/
theorem State.Booked.setSig {s : State} (h : s.Booked) {i : Fin 12} (live : s.slots[i].live = true)
    (state : SlotState) (sig : SigOutcome) (new : state = .signed ∨ state = s.slots[i].state) :
    (s.setSlot i { s.slots[i] with state := state, sig := sig }).Booked := by
  refine h.setSlot ⟨rfl, rfl, rfl, rfl⟩ live ?_ (fun p hp => h.tables.parsed i p hp) (h.buffers i)
    fun x c claim same => ⟨?_, rfl⟩
  · rw [Slot.live_iff]
    rcases new with e | e
    · exact .inr (.inr e)
    · rw [Slot.live_iff] at live
      simpa only [e] using live
  · rcases new with e | e
    · exact .inr e
    · obtain ⟨claimed, -⟩ := h.work.claims x c claim
      subst same
      simpa only [e] using claimed

/-- The report of a manifest job (R20). -/
theorem State.Booked.jobReport {s : State} (h : s.Booked) (i : Fin 12) (g : Byte) (r : JobResult) :
    (s.jobReport i g r).Booked := by
  unfold State.jobReport
  split
  next applies =>
    have live := State.reportApplies_live applies
    cases r with
    | pass =>
      simp only []
      split
      next full => exact h.verifySlot live full
      · exact h.setSig live .signed .passed (.inl rfl)
    | fail =>
      have failed := h.setSig live s.slots[i].state .failed (.inr rfl)
      have lives : (s.setSlot i { s.slots[i] with sig := .failed }).slots[i].live = true := by
        rw [State.setSlot_slots, put_fin_self]
        exact live
      exact failed.reject lives _ _ _ _
    | keyRevokedAtStart => exact h.reject live _ _ _ _
  · exact h

/-- The oldest waiting job leaves the list. -/
theorem State.Booked.dropJob {s : State} (h : s.Booked) {j : Job} {rest : List Job}
    (jobs : s.jobs = j :: rest) (active : Option ActiveJob) :
    ({ s with jobs := rest, active := active } : State).Booked := by
  have working : s.mode ≠ .startup := by
    intro m
    obtain ⟨-, -, -, -, none, -⟩ := h.startup m
    rw [none] at jobs
    cases jobs
  exact { h with
    jobs := by
      have full := h.jobs
      rw [jobs, List.length_cons] at full
      exact Nat.le_of_succ_le full
    startup := fun m => absurd m working
    tables := h.tables.same rfl rfl rfl
    work := h.work.same rfl rfl rfl rfl rfl }

/-- The jobs that end at their start (R62). -/
theorem State.Booked.endAtStart (n : Nat) : ∀ {s : State}, s.Booked → s.Undecided →
    (endAtStart n s).Booked ∧ (endAtStart n s).Undecided := by
  induction n with
  | zero => exact fun h u => ⟨h, u⟩
  | succ n ih =>
    intro s h u
    unfold Machine.endAtStart
    split
    next i gen rest jobs =>
      split
      · have left := h.dropJob jobs s.active
        refine ih (left.jobReport i gen .keyRevokedAtStart) ?_
        exact u.same (State.jobReport_mode _ i gen _) (State.jobReport_lines _ i gen _)
      · exact ⟨h, u⟩
    · exact ⟨h, u⟩

theorem State.Booked.takeJob {s : State} (h : s.Booked) (undecided : s.Undecided) (core : s.CoreBusy) :
    s.takeJob.BodySound := by
  unfold State.takeJob
  split
  next none => exact ⟨h, undecided, core, fun _ => none⟩
  next j rest jobs => exact ⟨h.dropJob jobs _, undecided, core, nofun⟩

/-- The end of an event in the signature unit: the part is sound again (R60, R62). -/
theorem State.Booked.startNext {s : State} (b : State) (h : s.Booked) (undecided : s.Undecided)
    (core : s.CoreBusy) (mode : s.mode ≠ .startup) : (b.startNext s).BodySound := by
  unfold State.startNext
  split
  next working =>
    obtain ⟨booked, und⟩ := h.conclude b undecided mode
    refine ⟨booked, und, (b.conclude_wanes s).coreBusy (b.conclude_sameUnits s) core, fun idle => ?_⟩
    rw [State.conclude_active] at idle
    rw [idle] at working
    cases working
  · obtain ⟨booked1, und1⟩ := State.Booked.endAtStart s.jobs.length h undecided
    obtain ⟨booked2, und2⟩ := booked1.conclude b und1 (s.endStarts_wanes.mode_ne mode)
    obtain ⟨booked3, und3⟩ := State.Booked.endAtStart _ booked2 und2
    refine booked3.takeJob und3 ?_
    have wanes := (s.endStarts_wanes.trans (b.conclude_wanes s.endStarts)).trans
      (State.endStarts_wanes _)
    have units := (s.endStarts_sameUnits.trans (b.conclude_sameUnits s.endStarts)).trans
      (State.endStarts_sameUnits _)
    exact wanes.coreBusy units core

/-- A job joins the list, and an idle unit takes it (R58, R60). -/
theorem State.Booked.placeJob {s : State} (h : s.Booked) (undecided : s.Undecided) (core : s.CoreBusy)
    (mode : s.mode ≠ .startup) (room : s.queueRoom = true) (j : Job) : (s.placeJob j).BodySound := by
  have space : s.jobs.length < 6 := by simpa [State.queueRoom] using room
  have placed : ({ s with jobs := s.jobs ++ [j] } : State).Booked := { h with
    jobs := by simpa using space
    startup := fun m => absurd m mode
    tables := h.tables.same rfl rfl rfl
    work := h.work.same rfl rfl rfl rfl rfl }
  exact placed.startNext s undecided core mode

theorem State.BodySound.endManifestJob {s : State} (h : s.BodySound) : s.endManifestJob.BodySound := by
  unfold State.endManifestJob
  split
  next i gen message key signature active =>
    have mode : s.mode ≠ .startup := by
      intro m
      obtain ⟨-, -, -, -, -, idle, -⟩ := h.booked.startup m
      rw [idle] at active
      cases active
    have ended : ({ s with active := none } : State).Booked := { h.booked with
      startup := fun m => absurd m mode
      tables := h.booked.tables.same rfl rfl rfl
      work := h.booked.work.same rfl rfl rfl rfl rfl }
    simp only []
    generalize (if signatureGood (sha256 message) key signature = true then JobResult.pass
      else JobResult.fail) = result
    refine (ended.jobReport i gen result).startNext s ?_ ?_ ?_
    · exact h.undecided.same (State.jobReport_mode _ i gen result) (State.jobReport_lines _ i gen result)
    · exact (State.jobReport_wanes _ i gen result).coreBusy (State.jobReport_sameUnits _ i gen result)
        h.core
    · rw [State.jobReport_mode]
      exact mode
  · exact h

theorem State.BodySound.endRevokeJob {s : State} (h : s.BodySound) : s.endRevokeJob.BodySound := by
  unfold State.endRevokeJob
  split
  next l target signer message key signature active =>
    have mode : s.mode ≠ .startup := by
      intro m
      obtain ⟨-, -, -, -, -, idle, -⟩ := h.booked.startup m
      rw [idle] at active
      cases active
    simp only []
    split
    · have handed : (({ s with active := none } : State).handOverRevocation l target).Booked :=
        { h.booked with
          startup := fun m => absurd m mode
          tables := h.booked.tables.same rfl rfl rfl
          work := h.booked.work.same rfl rfl rfl rfl rfl }
      exact handed.startNext s h.undecided h.core mode
    · have failed : (({ s with active := none } : State).failRevocation l target signer).Booked :=
        { h.booked with
          reserved := rfl
          startup := fun m => absurd m mode
          tables := h.booked.tables.same rfl rfl rfl
          work := (h.booked.work.faults _ (storeFault_all (P := fun f => f.detail.length = 8)
            h.booked.work.details (padTo_length 8 _))).same rfl rfl rfl rfl rfl }
      exact failed.startNext s h.undecided h.core mode
  · exact h

/-! ### The digest unit -/

/-- A part with a chunk in its core has left STARTUP. -/
theorem State.Booked.core_ne {s : State} (h : s.Booked) {ch : Chunk} (taken : s.core = some ch) :
    s.mode ≠ .startup := by
  intro m
  obtain ⟨-, -, -, idle, -⟩ := h.startup m
  rw [idle] at taken
  cases taken

/-- A part with a claimed context is in VERIFY. -/
theorem State.Booked.claim_live {s : State} (h : s.Booked) {x : Fin 4} {c : Claim}
    (claim : s.ctxs[x] = some c) : s.slots[c.slot].live = true := by
  obtain ⟨state, -⟩ := h.work.claims x c claim
  exact (Slot.live_iff _).2 (.inr state)

theorem State.coreTake_coreBusy (s : State) : s.coreTake.CoreBusy := by
  unfold State.coreTake
  split
  · exact nofun
  next busy =>
    intro idle
    cases queue : s.chunkQueue with
    | nil => rfl
    | cons ch rest => exact absurd queue (busy ch rest idle)

theorem State.Booked.coreTake {s : State} (h : s.Booked) (mode : s.mode ≠ .startup) :
    s.coreTake.Booked := by
  have work := h.work.coreTake
  unfold State.coreTake at work ⊢
  split
  next ch rest idle queue =>
    rw [idle, queue] at work
    exact { h with
      chunks := by
        have full := h.chunks
        rw [queue, List.length_cons] at full
        exact Nat.le_of_succ_le full
      startup := fun m => absurd m mode
      tables := h.tables.same rfl rfl rfl
      work := work }
  · exact h

/-- The core takes the oldest chunk, and the part is sound again (R39). -/
theorem State.Booked.bodySound_coreTake {s : State} (h : s.Booked) (undecided : s.Undecided)
    (mode : s.mode ≠ .startup) (unit : s.active = none → s.jobs = []) : s.coreTake.BodySound := by
  have same : s.coreTake.mode = s.mode ∧ s.coreTake.lines = s.lines ∧
      s.coreTake.active = s.active ∧ s.coreTake.jobs = s.jobs := by
    unfold State.coreTake
    split <;> exact ⟨rfl, rfl, rfl, rfl⟩
  obtain ⟨md, lines, active, jobs⟩ := same
  exact ⟨h.coreTake mode, undecided.same md lines, s.coreTake_coreBusy, by rw [active, jobs]; exact unit⟩

/-- A match report that applies (R21). -/
theorem State.segmentMatch_eq {s : State} {x : Fin 4} {c : Claim}
    (applies : s.reportApplies c.slot c.gen = true) : s.segmentMatch x c =
      if s.slots[c.slot].state = .signed ∧ (s.slots[c.slot].marked c.seg x).mapFull = true then
        s.conclude ((s.setSlot c.slot (s.slots[c.slot].marked c.seg x)).verifySlot c.slot)
      else s.setSlot c.slot (s.slots[c.slot].marked c.seg x) := by
  simp only [State.segmentMatch]
  rw [if_pos applies]
  rfl

/-- A context completes whatever it held. -/
theorem State.setCtx_completeCtx (s : State) (x : Fin 4) (d : Option Claim) (c : Claim) :
    (s.setCtx x d).completeCtx x c = s.completeCtx x c := by
  simp only [State.completeCtx, State.setCtx, put_put]

/-- A context that completes, no chunk of its claim being left (R50 to R54). -/
theorem State.Booked.completeCtx {s : State} (h : s.Booked) (undecided : s.Undecided) {x : Fin 4}
    {c : Claim} (claim : s.ctxs[x] = some c) (done : c.pendingChunks = 0) :
    (s.completeCtx x c).Booked ∧ (s.completeCtx x c).Undecided := by
  have live := h.claim_live claim
  have mode := h.live_ne live
  obtain ⟨state, gen, -⟩ := h.work.claims x c claim
  have applies : (s.setCtx x none).reportApplies c.slot c.gen = true := by
    rw [State.reportApplies, Bool.and_eq_true, beq_iff_eq]
    exact ⟨live, gen⟩
  simp only [State.completeCtx]
  split
  · rw [State.segmentMatch_eq applies]
    have booked : ((s.setCtx x none).setSlot c.slot (s.slots[c.slot].marked c.seg x)).Booked :=
      { h with
        buffers := fun j => by
          rw [State.setSlot_slots, put_fin]
          split
          · exact h.buffers c.slot
          · exact h.buffers j
        startup := fun m => absurd m mode
        tables := (h.tables.setSlot (y := s.slots[c.slot].marked c.seg x) ⟨rfl, rfl, rfl⟩ live live
          fun p hp => by
            simp only [Slot.marked, List.length_set]
            exact h.tables.parsed c.slot p hp).same rfl rfl rfl
        work := h.work.matched claim done }
    split
    next full =>
      have slot : ((s.setCtx x none).setSlot c.slot (s.slots[c.slot].marked c.seg x)).slots[c.slot] =
          s.slots[c.slot].marked c.seg x := put_fin_self ..
      have verified := booked.verifySlot (i := c.slot) (by rw [slot]; exact live)
        (by rw [slot]; exact full.2)
      refine verified.conclude _ ?_ ?_
      · exact undecided.same (State.verifySlot_mode _ _) (State.verifySlot_lines _ _)
      · rw [State.verifySlot_mode]
        exact mode
    · exact ⟨booked, undecided⟩
  · unfold State.segmentMismatch
    rw [if_pos applies, State.setCtx_none_reject claim live]
    refine (h.reject live _ _ _ _).conclude _ ?_ ?_
    · exact undecided.same (by simp) (by simp)
    · rw [State.reject_mode]
      exact mode

theorem State.BodySound.finishChunk {s : State} (h : s.BodySound) : s.finishChunk.BodySound := by
  unfold State.finishChunk
  split
  · exact h
  next ch taken =>
    have mode := h.booked.core_ne taken
    have chunkClaim : ({ s with core := none } : State).chunkClaim ch = s.chunkClaim ch := rfl
    simp only [chunkClaim]
    split
    next gone =>
      have discarded : ({ s with core := none } : State).Booked := { h.booked with
        startup := fun m => absurd m mode
        tables := h.booked.tables.same rfl rfl rfl
        work := h.booked.work.discards taken gone }
      exact discarded.bodySound_coreTake h.undecided mode h.unit
    next c stands =>
      set u := ({ s with core := none } : State).setCtx ch.ctx (some (c.fold ch)) with hu
      have folded : u.Booked := { h.booked with
        startup := fun m => absurd m mode
        tables := h.booked.tables.same rfl rfl rfl
        work := h.booked.work.folds taken stands }
      split
      next last =>
        have claim : u.ctxs[ch.ctx] = some (c.fold ch) := put_fin_self ..
        obtain ⟨booked, undecided⟩ := folded.completeCtx h.undecided claim last.2
        rw [← State.setCtx_completeCtx _ ch.ctx (some (c.fold ch)), ← hu]
        refine booked.bodySound_coreTake undecided ((u.completeCtx_wanes _ _).mode_ne mode) ?_
        exact (u.completeCtx_wanes _ _).unit (u.completeCtx_sameUnits _ _) h.unit
      · exact folded.bodySound_coreTake h.undecided mode h.unit

/-! ### The fuse controller -/

theorem State.boundSlots_spec (s : State) (k : Fin 10) : (s.boundSlots k).Nodup ∧
    ∀ i, i ∈ s.boundSlots k ↔ (s.slots[i].state = .checking ∨ s.slots[i].state = .signed) ∧
      s.slots[i].keyIndex = some k :=
  ⟨by unfold State.boundSlots indicesOf; exact (List.nodup_finRange 12).filter _,
    fun i => by simp [State.boundSlots, mem_indicesOf]⟩

/-- The rejection order of a revocation (R81). -/
theorem State.BodySound.rejectBound {s : State} (h : s.BodySound) (mode : s.mode ≠ .startup)
    (k : Fin 10) : (s.rejectBound k).BodySound := by
  obtain ⟨distinct, mem⟩ := s.boundSlots_spec k
  have live (i : Fin 12) (hi : i ∈ s.boundSlots k) : s.slots[i].live = true :=
    (Slot.live_iff _).2 (.inr ((mem i).1 hi).1)
  have rejected := h.booked.rejectAll distinct live .keyRevoked (some k)
  obtain ⟨booked, undecided⟩ := rejected.conclude s (h.undecided.same (by simp) (by simp))
    (by rw [State.rejectAll_mode]; exact mode)
  have wanes := (s.rejectAll_wanes (s.boundSlots k) .keyRevoked (some k)).trans (s.conclude_wanes _)
  have units := s.rejectBound_sameUnits k
  exact ⟨booked, undecided, wanes.coreBusy units h.core, wanes.unit units h.unit⟩

/-! ### Resets -/

/-- A part that has begun STARTUP, or waits to. -/
theorem State.cold_bodySound (s : State) : s.cold.BodySound where
  booked := {
    chunks := Nat.zero_le _
    jobs := Nat.zero_le _
    reserved := rfl
    buffers := fun i => by simp [State.cold, State.reset, Slot.freed]
    attempts := fun c => by simp [State.cold, State.reset, ClassRec.unused]
    failed := Nat.zero_le _
    timer := ⟨nofun, nofun⟩
    tick := nofun
    selfTest := fun _ => rfl
    startup := fun _ => ⟨fun i => by simp [State.cold, State.reset],
      fun x => by simp [State.cold, State.reset], rfl, rfl, rfl, rfl, rfl, rfl⟩
    held := fun deaf => ⟨rfl, congrArg not deaf⟩
    tables := State.tablesSound_of_freed (fun i => by simp [State.cold, State.reset])
      fun c => by simp [State.cold, State.reset, ClassRec.unused]
    work := State.workSound_of_none (fun i => by simp [State.cold, State.reset, Slot.freed])
      (fun x => by simp [State.cold, State.reset]) rfl rfl
      fun n => by simp [State.cold, State.reset, FaultRecord.blank, zeros] }
  undecided := nofun
  core := fun _ => rfl
  unit := fun _ => rfl

theorem countedAttempts_le {v : Verdict} {count : Nat} (h : count ≤ 255) :
    countedAttempts v count ≤ 255 := by
  unfold countedAttempts
  split
  · exact h
  · exact Nat.min_le_left _ _

/-- A warm reset keeps the fault records and the failed-attempt count in their bounds (R150, R154). -/
theorem State.warmReset_bodySound {s : State} (failed : s.failedCount ≤ 255)
    (details : ∀ n : Fin 4, s.faults[n].detail.length = 8) (cause : ResetCause) :
    (s.warmReset cause).BodySound := by
  obtain ⟨booked, undecided, core, unit⟩ := s.cold_bodySound
  exact ⟨{ booked with
    failed := countedAttempts_le failed
    tables := booked.tables.same rfl rfl rfl
    work := (booked.work.faults s.faults details).same rfl rfl rfl rfl rfl }, undecided, core, unit⟩

theorem State.Booked.warmReset {s : State} (h : s.Booked) (cause : ResetCause) :
    (s.warmReset cause).BodySound := State.warmReset_bodySound h.failed h.work.details cause

end Sys2Proof.Machine
end

section
/-! SUPPORT. The bookkeeping of the part through requests, expiry, burns and start-up (Chapters 1, 6 to 9). -/

namespace Sys2Proof.Machine

/-! ### Requests -/

theorem classRefusal_none {x : ClassRec} {l : Link} (h : classRefusal x l = none) :
    x.state = .pending ∧ x.linkMask.getLsbD (linkCode l).toNat = true ∧ x.attempts ≠ 3 := by
  unfold classRefusal at h
  split at h
  case h_5 pending =>
    split at h
    · cases h
    next linked =>
      split at h
      · cases h
      next attempts => exact ⟨pending, by simpa using linked, attempts⟩
  all_goals cases h

theorem mem_of_head? {n : Nat} {p : Fin n → Bool} {i : Fin n} (h : (indicesOf p).head? = some i) :
    p i = true := (mem_indicesOf p i).1 (List.mem_of_head? h)

theorem State.freeSlot_state {s : State} {i : Fin 12} (h : s.freeSlot = some i) :
    s.slots[i].state = .free := by simpa using mem_of_head? h

theorem State.idleCtx_none {s : State} {x : Fin 4} (h : s.idleCtx = some x) : s.ctxs[x] = none := by
  simpa using mem_of_head? h

/-- The fields that the checks of a good manifest record (R9, R14). -/
theorem State.manifestChecks_ok {s : State} {c : Fin 8} {buffer : List Byte} {p : Parsed}
    (h : s.manifestChecks c buffer = .ok p) :
    48 ≤ buffer.length ∧ ∃ k, p = parsedOf (readHead buffer) k := by
  simp only [State.manifestChecks] at h
  split at h
  · cases h
  · split at h
    · cases h
    next long =>
      split at h
      · cases h
      · split at h
        · cases h
        next k _ =>
          split at h
          · cases h
          · cases h
            exact ⟨by omega, k, rfl⟩

theorem State.segmentRefusal_none {s : State} {i : Fin 12} {p : Parsed} {j : Nat}
    (h : s.segmentRefusal i p j = none) :
    j < p.segCount ∧ s.slots[i].segMap.getD j false = false ∧ s.segmentBusy i j = false := by
  unfold State.segmentRefusal at h
  split at h
  · cases h
  next inside =>
    split at h
    · cases h
    next unmatched =>
      split at h
      · cases h
      next free => exact ⟨not_le.1 inside, by simpa using unmatched, by simpa using free⟩

theorem State.segmentBusy_false {s : State} {i : Fin 12} {j : Nat} (h : s.segmentBusy i j = false)
    (x : Fin 4) (c : Claim) (claim : s.ctxs[x] = some c) (slot : c.slot = i) : c.seg ≠ j := by
  rintro rfl
  have free := List.any_eq_false.1 h x (List.mem_finRange x)
  simp only [claim] at free
  simp [slot] at free

theorem State.Serves.opens_bodySound {s : State} (h : s.BodySound) {c : Fin 8} {l : Link} {i : Fin 12}
    (mode : s.mode = .verify) (accepted : classRefusal s.classes[c] l = none)
    (slot : s.freeSlot = some i) :
    ((s.setSlot i (s.slots[i].opened c l)).setClass c
      { s.classes[c] with attempts := s.classes[c].attempts + 1 }).BodySound := by
  obtain ⟨booked, undecided, core, unit⟩ := h
  obtain ⟨pending, -, below⟩ := classRefusal_none accepted
  have free := State.freeSlot_state slot
  have gen := booked.tables.gen_le booked.attempts i
  have raised : s.slots[i].gen.toNat < (s.slots[i].opened c l).gen.toNat := by
    change _ < (s.slots[i].gen + 1).toNat
    rw [BitVec.toNat_add, Nat.mod_eq_of_lt]
    · exact Nat.lt_succ_self _
    · exact Nat.lt_of_le_of_lt (Nat.add_le_add_right gen _) (by decide)
  refine ⟨{ booked with
    buffers := fun j => ?_
    attempts := fun d => ?_
    startup := fun m => ?_
    tables := booked.tables.opens l mode pending free gen
    work := (booked.work.opened free rfl raised).same rfl rfl rfl rfl rfl }, undecided, core, unit⟩
  · change (put s.slots i _)[j].buffer.length ≤ 8304
    rw [put_fin]
    split
    · exact Nat.zero_le _
    · exact booked.buffers j
  · rw [State.setClass_classes, put_fin]
    split
    next same =>
      have bound := booked.attempts c
      change s.classes[c].attempts + 1 ≤ 3
      omega
    · exact booked.attempts d
  · have verify : s.mode = .startup := m
    rw [mode] at verify
    cases verify

theorem State.loading_live {x : Slot} (h : x.state = .loading) : x.live = true :=
  (Slot.live_iff x).2 (.inl h)

/-- No context is claimed for a LOADING slot. -/
theorem State.Booked.loading_unclaimed {s : State} (h : s.Booked) {i : Fin 12}
    (state : s.slots[i].state = .loading) (x : Fin 4) (c : Claim) (claim : s.ctxs[x] = some c) :
    c.slot ≠ i :=
  h.work.no_claim (by rw [state]; exact ⟨nofun, nofun⟩) x c claim

/-- A LOADING slot closed by a good manifest (R14). -/
theorem State.Booked.closes {s : State} (h : s.Booked) {i : Fin 12} {c : Fin 8} {p : Parsed}
    (state : s.slots[i].state = .loading) (good : s.manifestChecks c s.slots[i].buffer = .ok p) :
    (s.setSlot i (s.slots[i].closedWith p)).Booked := by
  obtain ⟨long, k, rfl⟩ := State.manifestChecks_ok good
  refine h.setSlot ⟨rfl, rfl, rfl, rfl⟩ (State.loading_live state) rfl ?_ (h.buffers i)
    fun x e claim same => absurd same (h.loading_unclaimed state x e claim)
  rintro q ⟨⟩
  refine ⟨List.length_replicate, ?_⟩
  simp only [parsedOf, readHead, slice, List.length_take, List.length_drop]
  omega

/-- A slot dropped (R23). -/
theorem State.BodySound.drop {s : State} (h : s.BodySound) {i : Fin 12}
    (state : s.slots[i].state ≠ .verified) : (s.drop i).BodySound := by
  obtain ⟨booked, undecided, core, unit⟩ := h
  simp only [State.drop]
  split
  · exact ⟨booked, undecided, core, unit⟩
  next claimed =>
    have mode : s.mode ≠ .startup := by
      intro m
      obtain ⟨free, -⟩ := booked.startup m
      rw [free] at claimed
      exact claimed rfl
    have frees {t : State} (slots : t.slots = put s.slots i (Slot.freed s.slots[i].gen))
        (classes : t.classes = s.classes) (md : t.mode = s.mode) : t.TablesSound :=
      booked.tables.frees state (fun j => by rw [slots]; exact put_fin ..) classes md
    have buffers (j : Fin 12) : (put s.slots i (Slot.freed s.slots[i].gen))[j].buffer.length ≤ 8304 := by
      rw [put_fin]
      split
      · exact Nat.zero_le _
      · exact booked.buffers j
    split
    next live =>
      have slots : ((s.release i).setSlot i (Slot.freed s.slots[i].gen)).slots =
          put s.slots i (Slot.freed s.slots[i].gen) := put_put ..
      have freed : ((s.release i).setSlot i (Slot.freed s.slots[i].gen)).Booked := { booked with
        chunks := (List.length_filter_le _ _).trans booked.chunks
        jobs := (List.length_filter_le _ _).trans booked.jobs
        buffers := fun j => by rw [slots]; exact buffers j
        startup := fun m => absurd m mode
        tables := frees slots rfl rfl
        work := booked.work.released i
          (fun j ne => by rw [slots, put_fin_ne _ _ ne])
          (by rw [slots, put_fin_self]; exact ⟨rfl, rfl, rfl⟩) rfl rfl rfl booked.work.details }
      obtain ⟨concluded, und⟩ := freed.conclude s undecided mode
      refine ⟨concluded, und, ?_, ?_⟩
      · refine (s.conclude_wanes _).coreBusy (s.conclude_sameUnits _) fun idle => ?_
        exact List.filter_eq_nil_iff.2 fun ch mem => by rw [core idle] at mem; cases mem
      · refine (s.conclude_wanes _).unit (s.conclude_sameUnits _) fun idle => ?_
        exact List.filter_eq_nil_iff.2 fun j mem => by rw [unit idle] at mem; cases mem
    next dead =>
      have unclaimed (x : Fin 4) (c : Claim) (claim : s.ctxs[x] = some c) : c.slot ≠ i := by
        rintro rfl
        exact dead (booked.claim_live claim)
      exact ⟨{ booked with
        buffers := buffers
        startup := fun m => absurd m mode
        tables := frees rfl rfl rfl
        work := booked.work.setSlot (booked.work.openCtxs_nil unclaimed).symm rfl nofun
          fun x c claim same => absurd same (unclaimed x c claim) }, undecided, core, unit⟩

/-- A class declined (R114). -/
theorem State.BodySound.decline {s : State} (h : s.BodySound) {c : Fin 8} (mode : s.mode = .verify)
    (pending : s.classes[c].state = .pending) : (s.decline c).BodySound := by
  obtain ⟨booked, undecided, core, unit⟩ := h
  have left : s.mode ≠ .startup := by rw [mode]; exact nofun
  set u := s.setClass c { s.classes[c] with state := .declined } with hu
  have cl (d : Fin 8) : u.classes[d] =
      if d = c then { s.classes[c] with state := .declined } else s.classes[d] := put_fin ..
  obtain ⟨distinct, mem⟩ := u.liveOfClass_spec c
  have live (i : Fin 12) (hi : i ∈ u.liveOfClass c) : u.slots[i].live = true := ((mem i).1 hi).1
  have slot := State.rejectAll_slots .declined none distinct live
  set v := u.rejectAll (u.liveOfClass c) .declined none with hv
  have wanes : s.Wanes v :=
    (s.setClass_wanes c { s.classes[c] with state := .declined } rfl).trans (u.rejectAll_wanes _ _ _)
  have units : s.SameUnits v := (s.setClass_sameUnits c _).trans (u.rejectAll_sameUnits _ _ _)
  have tables : v.TablesSound := by
    refine booked.tables.rejects (fun j => ?_) (fun d => ?_) fun j l => ?_
    · rw [slot]
      split
      next hj => exact .inr ⟨live j hj, _, rfl⟩
      · exact .inl rfl
    · rw [hv, State.rejectAll_classes, cl]
      split
      next same => subst same; exact .inr ⟨pending, .declined, nofun, rfl⟩
      · exact .inl rfl
    · rw [slot] at l ⊢
      split at l
      · cases l
      next other =>
        rw [if_neg other]
        obtain ⟨m, d, hd, p⟩ := booked.tables.live j l
        refine ⟨by rw [hv, State.rejectAll_mode]; exact m, d, hd, ?_⟩
        rw [hv, State.rejectAll_classes, cl, if_neg]
        · exact p
        · rintro rfl
          exact other ((mem j).2 ⟨l, hd⟩)
  have work : v.WorkSound :=
    (booked.work.same (t := u) rfl rfl rfl rfl rfl).rejectAll distinct live .declined none
  have declined : v.Booked :=
    booked.wanes left wanes units tables work (.inl ⟨by rw [hv]; simp [hu], by rw [hv]; simp [hu]⟩)
  have posted : (v.post .classChange).Booked := { declined with
    tables := tables.same rfl rfl rfl, work := work.same rfl rfl rfl rfl rfl }
  obtain ⟨gated, und⟩ := posted.gate (wanes.mode_ne left)
  have wanes := (wanes.trans (v.post_wanes .classChange)).trans (State.gate_wanes _)
  have units := (units.trans (v.post_sameUnits .classChange)).trans (State.gate_sameUnits _)
  exact ⟨gated, und, wanes.coreBusy units core, wanes.unit units unit⟩

/-- The count reloaded or lowered, and the interval restarted (R128, R130, R132). -/
theorem State.BodySound.setCount {s : State} (h : s.BodySound) {w : Window}
    (running : w.running = s.window.running) (count : Nat) : (s.setCount w count).BodySound := by
  obtain ⟨booked, undecided, core, unit⟩ := h
  have timer : w.running = true ↔ s.mode = .verify := by rw [running]; exact booked.timer
  have counted : (s.setCount w count).Booked := by
    simp only [State.setCount]
    split <;> exact { booked with
      timer := timer
      tick := fun _ => rfl
      tables := booked.tables.same rfl rfl rfl
      work := booked.work.same rfl rfl rfl rfl rfl }
  have same : (s.setCount w count).mode = s.mode ∧ (s.setCount w count).lines = s.lines ∧
      (s.setCount w count).core = s.core ∧ (s.setCount w count).chunkQueue = s.chunkQueue ∧
      (s.setCount w count).active = s.active ∧ (s.setCount w count).jobs = s.jobs := by
    simp only [State.setCount]
    split <;> exact ⟨rfl, rfl, rfl, rfl, rfl, rfl⟩
  obtain ⟨mode, lines, hcore, chunks, active, jobs⟩ := same
  exact ⟨counted, undecided.same mode lines, by unfold State.CoreBusy; rw [hcore, chunks]; exact core,
    by rw [active, jobs]; exact unit⟩

/-- A fully received context closed (R48). -/
theorem State.BodySound.closeSegment {s : State} (h : s.BodySound) {x : Fin 4} {c : Claim}
    (claim : s.ctxs[x] = some c) : (s.closeSegment x c).1.BodySound := by
  obtain ⟨booked, undecided, core, unit⟩ := h
  have mode := booked.live_ne (booked.claim_live claim)
  set d := { c with draining := true } with hd
  have draining : (s.setCtx x (some d)).Booked := { booked with
    startup := fun m => absurd m mode
    tables := booked.tables.same rfl rfl rfl
    work := booked.work.drains claim true }
  simp only [State.closeSegment, ← hd]
  split
  next done =>
    have claim' : (s.setCtx x (some d)).ctxs[x] = some d := put_fin_self ..
    obtain ⟨complete, und⟩ := draining.completeCtx undecided claim' done
    rw [State.setCtx_completeCtx] at complete und
    have wanes := s.completeCtx_wanes x d
    have units := s.completeCtx_sameUnits x d
    exact ⟨complete, und, wanes.coreBusy units core, wanes.unit units unit⟩
  · exact ⟨draining, undecided, core, unit⟩

/-- SEG_DATA accepted (R46). -/
theorem State.BodySound.acceptChunk {s : State} (h : s.BodySound) {x : Fin 4} {c : Claim}
    (claim : s.ctxs[x] = some c) (room : s.chunkQueue.length < 8) (data : List Byte) :
    (s.acceptChunk x c data).BodySound := by
  obtain ⟨booked, undecided, core, unit⟩ := h
  have mode := booked.live_ne (booked.claim_live claim)
  unfold State.acceptChunk
  refine State.Booked.bodySound_coreTake ?_ undecided mode unit
  exact { booked with
    chunks := by
      have grown : s.chunkQueue.length + 1 ≤ 8 := room
      simpa using grown
    startup := fun m => absurd m mode
    tables := booked.tables.same rfl rfl rfl
    work := booked.work.queues claim data }

/-- SEG_OPEN accepted (R43). -/
theorem State.BodySound.claims {s : State} (h : s.BodySound) {i : Fin 12} {p : Parsed} {j : Nat}
    {x : Fin 4} (state : s.slots[i].state = .checking ∨ s.slots[i].state = .signed)
    (parsed : s.slots[i].parsed = some p) (accepted : s.segmentRefusal i p j = none)
    (ctx : s.idleCtx = some x) :
    ((s.setCtx x (some (openedClaim i s.slots[i].gen p j))).setSlot i
      { s.slots[i] with openCtxs := s.slots[i].openCtxs ++ [x] }).BodySound := by
  obtain ⟨booked, undecided, core, unit⟩ := h
  have live : s.slots[i].live = true := (Slot.live_iff _).2 (.inr state)
  obtain ⟨inside, unmatched, free⟩ := State.segmentRefusal_none accepted
  have unmarked : s.slots[i].segMap.getD j true = false := by
    rw [← (booked.tables.parsed i p parsed).1] at inside
    rw [List.getD_eq_getElem _ _ inside] at unmatched ⊢
    exact unmatched
  refine ⟨{ booked with
    buffers := fun k => ?_
    startup := fun m => absurd m (booked.live_ne live)
    tables := (booked.tables.setSlot (y := { s.slots[i] with openCtxs := s.slots[i].openCtxs ++ [x] })
      ⟨rfl, rfl, rfl⟩ live live (booked.tables.parsed i)).same rfl rfl rfl
    work := booked.work.claims_ctx state (State.idleCtx_none ctx) unmarked
      (State.segmentBusy_false free) }, undecided, core, unit⟩
  rw [State.setSlot_slots, put_fin]
  split
  · exact booked.buffers i
  · exact booked.buffers k

/-- Every request keeps the bookkeeping. -/
theorem State.Serves.bodySound {s t : State} (served : s.Serves t) (h : s.BodySound) :
    t.BodySound := by
  cases served with
  | opens c l i mode accepted slot => exact State.Serves.opens_bodySound h mode accepted slot
  | appends i data state fits =>
    obtain ⟨booked, undecided, core, unit⟩ := h
    refine ⟨booked.setSlot ⟨rfl, rfl, rfl, rfl⟩ (State.loading_live state) (State.loading_live state)
      (fun p hp => booked.tables.parsed i p hp) ?_
      fun x c claim same => absurd same (booked.loading_unclaimed state x c claim), undecided, core, unit⟩
    rw [List.length_append]
    exact fits
  | rejects i e state =>
    obtain ⟨booked, undecided, core, unit⟩ := h
    have live := State.loading_live state
    obtain ⟨concluded, und⟩ := (booked.reject live e.code none e.key e.detail).conclude s
      (undecided.same (by simp) (by simp)) (by rw [State.reject_mode]; exact booked.live_ne live)
    have wanes := (s.reject_wanes i e.code none e.key e.detail).trans (s.conclude_wanes _)
    have units := (s.reject_sameUnits i e.code none e.key e.detail).trans (s.conclude_sameUnits _)
    exact ⟨concluded, und, wanes.coreBusy units core, wanes.unit units unit⟩
  | checks i c p state good room =>
    exact (h.booked.closes state good).placeJob h.undecided h.core
      (h.booked.live_ne (State.loading_live state)) room _
  | drops i state => exact h.drop state
  | claims i p j x state parsed accepted ctx => exact h.claims state parsed accepted ctx
  | queues x c data claim room => exact h.acceptChunk claim room data
  | closes x c claim => exact h.closeSegment claim
  | declines c mode accepted => exact h.decline mode (declineRefusal_none accepted).2
  | reloads mode => exact h.setCount (w := { s.window with extUsed := s.window.extUsed + 1 }) rfl s.window.reload
  | starts op mode idle =>
    obtain ⟨booked, undecided, core, unit⟩ := h
    exact ⟨{ booked with
      startup := fun m => absurd m mode
      tables := booked.tables.same rfl rfl rfl
      work := booked.work.same rfl rfl rfl rfl rfl }, undecided, core, unit⟩
  | notices l target signer signature mode idle room =>
    have left : s.mode ≠ .startup := by rcases mode with m | m <;> rw [m] <;> exact nofun
    have reserved : ({ s with reserved := true, revoking := some target } : State).Booked :=
      { h.booked with
        reserved := rfl
        startup := fun m => absurd m left
        tables := h.booked.tables.same rfl rfl rfl
        work := h.booked.work.same rfl rfl rfl rfl rfl }
    exact reserved.placeJob h.undecided h.core left room _
  | stages p =>
    obtain ⟨booked, undecided, core, unit⟩ := h
    exact ⟨{ booked with
      tables := booked.tables.same rfl rfl rfl
      work := booked.work.same rfl rfl rfl rfl rfl }, undecided, core, unit⟩

end Sys2Proof.Machine
end

section
/-! SUPPORT. The bookkeeping beside the links kept by the timer, the burns, the self-test and the resets, and so
by every event. -/

namespace Sys2Proof.Machine

/-! ### The boot window -/

/-- The part at its expiry, with every slot rejected and every class failed (R134, steps 1 to 3). -/
def State.expiring (s : State) : State :=
  let w := s.window
  let s1 := (({ s with window := w.stop } : State).recordFault
    (faultOf .windowExpired [byteOf w.extUsed, byteOf w.reload, byteOf w.prescale])).post
    .windowExpired
  let s2 := s1.rejectAll s1.liveSlots .windowExpired none
  s2.moveClasses (failedClasses s2.classes)

theorem State.expire_eq (s : State) :
    s.expire = (s.expiring.moveLines (lockedLines s.expiring.lines)).settleIfDecided := rfl

theorem State.moveLines_lines (s : State) (v : Vector LineRec 6) : (s.moveLines v).lines = v := by
  unfold State.moveLines
  split
  next same => exact same.symm
  · rfl

theorem anyLine_lockedLines (v : Vector LineRec 6) : anyLine (lockedLines v) .held = false := by
  rw [← Bool.not_eq_true]
  simp only [anyLine, lockedLines, List.any_eq_true, List.mem_finRange, true_and, tabulate_fin,
    not_exists, beq_iff_eq]
  intro i
  split
  · exact nofun
  next ne => exact ne

theorem State.moveClasses_classes (s : State) (v : Vector ClassRec 8) : (s.moveClasses v).classes = v := by
  unfold State.moveClasses
  split
  next same => exact same.symm
  · rfl

/-- What CLASS_CHANGE leaves: all but the classes and the flags. -/
theorem State.moveClasses_same (s : State) (v : Vector ClassRec 8) :
    (s.moveClasses v).slots = s.slots ∧ (s.moveClasses v).ctxs = s.ctxs ∧
      (s.moveClasses v).chunkQueue = s.chunkQueue ∧ (s.moveClasses v).core = s.core ∧
      (s.moveClasses v).faults = s.faults ∧ (s.moveClasses v).mode = s.mode ∧
      (s.moveClasses v).lines = s.lines ∧ (s.moveClasses v).window = s.window := by
  unfold State.moveClasses
  split <;> exact ⟨rfl, rfl, rfl, rfl, rfl, rfl, rfl, rfl⟩

theorem State.expiring_mode (s : State) : s.expiring.mode = s.mode := by
  simp only [State.expiring, State.moveClasses_same, State.rejectAll_mode]
  rfl

/-- The slots that an expiry leaves (R134, step 2). -/
theorem State.expiring_slots (s : State) (j : Fin 12) : s.expiring.slots[j] =
    if s.slots[j].live = true then s.slots[j].rejectedFor .windowExpired else s.slots[j] := by
  simp only [State.expiring, (State.moveClasses_same _ _).1]
  obtain ⟨distinct, mem⟩ := State.liveSlots_spec ((({ s with window := s.window.stop } : State).recordFault
    (faultOf .windowExpired
      [byteOf s.window.extUsed, byteOf s.window.reload, byteOf s.window.prescale])).post .windowExpired)
  rw [State.rejectAll_slots _ _ distinct fun i hi => (mem i).1 hi]
  simp only [mem]
  rfl

/-- The classes that it leaves (R134, step 3). -/
theorem State.expiring_classes (s : State) : s.expiring.classes = failedClasses s.classes := by
  simp only [State.expiring, State.moveClasses_classes, State.rejectAll_classes]
  rfl

theorem State.expiring_work {s : State} (h : s.WorkSound) : s.expiring.WorkSound := by
  have recorded := h.faults (storeFault s.faults { faultOf .windowExpired
    [byteOf s.window.extUsed, byteOf s.window.reload, byteOf s.window.prescale] with
      stamp := s.bootClock })
    (storeFault_all (P := fun f => f.detail.length = 8) h.details (padTo_length 8 _))
  have start : ((({ s with window := s.window.stop } : State).recordFault (faultOf .windowExpired
      [byteOf s.window.extUsed, byteOf s.window.reload, byteOf s.window.prescale])).post
      .windowExpired).WorkSound := recorded.same rfl rfl rfl rfl rfl
  obtain ⟨distinct, mem⟩ := State.liveSlots_spec ((({ s with window := s.window.stop } : State).recordFault
    (faultOf .windowExpired
      [byteOf s.window.extUsed, byteOf s.window.reload, byteOf s.window.prescale])).post .windowExpired)
  obtain ⟨slots, ctxs, chunks, core, faults, -⟩ := State.moveClasses_same
    (State.rejectAll _ (State.liveSlots _) .windowExpired none) (failedClasses (State.classes _))
  exact (start.rejectAll distinct (fun i hi => (mem i).1 hi) .windowExpired none).same
    slots ctxs chunks core faults

theorem State.expiring_tables {s : State} (h : s.TablesSound) : s.expiring.TablesSound := by
  refine h.rejects (fun j => ?_) (fun c => ?_) fun j l => ?_
  · rw [s.expiring_slots]
    split
    next l => exact .inr ⟨l, _, rfl⟩
    · exact .inl rfl
  · rw [s.expiring_classes, failedClasses, tabulate_fin]
    split
    next pending => exact .inr ⟨pending, .failed, nofun, rfl⟩
    · exact .inl rfl
  · rw [s.expiring_slots] at l
    split at l
    · cases l
    next ne => exact absurd l ne

theorem State.TablesSound.moveLines {s : State} (h : s.TablesSound) (v : Vector LineRec 6) :
    (s.moveLines v).TablesSound := by
  unfold State.moveLines
  split
  · exact h
  · exact h.same rfl rfl rfl

theorem State.WorkSound.moveLines {s : State} (h : s.WorkSound) (v : Vector LineRec 6) :
    (s.moveLines v).WorkSound := by
  unfold State.moveLines
  split
  · exact h
  · exact h.same rfl rfl rfl rfl rfl

/-- The part settles at its expiry (R134, step 5). -/
theorem State.expire_settles {s : State} (mode : s.mode = .verify) :
    s.expire = (s.expiring.moveLines (lockedLines s.expiring.lines)).settle := by
  rw [s.expire_eq, State.settleIfDecided, if_pos]
  refine ⟨?_, ?_⟩
  · rw [State.moveLines_mode, s.expiring_mode]
    exact mode
  · rw [State.moveLines_lines]
    exact anyLine_lockedLines _

theorem State.BodySound.expire {s : State} (h : s.BodySound) (mode : s.mode = .verify) :
    s.expire.BodySound := by
  obtain ⟨booked, -, core, unit⟩ := h
  have wanes := s.expire_wanes
  have units := s.expire_sameUnits
  have settled : s.expire.mode = .settled := by rw [State.expire_settles mode, State.settle_mode]
  have tables := (State.expiring_tables booked.tables).moveLines (lockedLines s.expiring.lines)
  have work := (State.expiring_work booked.work).moveLines (lockedLines s.expiring.lines)
  refine ⟨booked.wanes (by rw [mode]; exact nofun) wanes units ?_ ?_ (.inr ⟨settled, ?_⟩),
    fun m => ?_, wanes.coreBusy units core, wanes.unit units unit⟩
  · rw [State.expire_settles mode]
    exact State.settle_tables tables
  · rw [State.expire_settles mode]
    exact State.settle_work work
  · rw [State.expire_settles mode, State.settle_window]
    rfl
  · rw [settled] at m
    cases m

theorem State.BodySound.tick {s : State} (h : s.BodySound) : s.tick.BodySound := by
  rcases s.tick_cases with ⟨-, e⟩ | ⟨due, -, e⟩ | ⟨-, -, e⟩ <;> rw [e]
  · exact h
  · exact h.expire (h.booked.timer.1 ((Window.tickDue_iff _).1 due).1)
  · exact h.setCount rfl _

/-- The boot clock and the time to the next tick (R129, R155). -/
theorem State.BodySound.clock {s : State} (h : s.BodySound) : State.BodySound
    { s with bootClock := s.bootClock + 1,
             window := { s.window with toTick := s.window.toTick.map fun n => n - 1 } } := by
  obtain ⟨booked, undecided, core, unit⟩ := h
  exact ⟨{ booked with
    timer := booked.timer
    tick := fun running => by
      rw [Option.isSome_map]
      exact booked.tick running
    tables := booked.tables.same rfl rfl rfl
    work := booked.work.same rfl rfl rfl rfl rfl }, undecided, core, unit⟩

/-! ### The fuse controller -/

/-- A fault stored and events posted, outside STARTUP and in it (R156, R160). -/
theorem State.BodySound.recordFault {s : State} (h : s.BodySound) {r : FaultRecord}
    (detail : r.detail.length = 8) : (s.recordFault r).BodySound := by
  obtain ⟨booked, undecided, core, unit⟩ := h
  exact ⟨{ booked with
    tables := booked.tables.same rfl rfl rfl
    work := (booked.work.faults (storeFault s.faults { r with stamp := s.bootClock })
      (storeFault_all (P := fun f => f.detail.length = 8) booked.work.details detail)).same rfl rfl rfl rfl rfl }, undecided, core, unit⟩

theorem State.post_sameBody (s : State) (e : EventFlag) : s.SameBody (s.post e) := ⟨_, _, _, _, _, _, _, rfl⟩

theorem State.BodySound.post {s : State} (h : s.BodySound) (e : EventFlag) : (s.post e).BodySound :=
  (s.post_sameBody e).bodySound h

/-- The fuses, and the operation outside STARTUP. -/
theorem State.BodySound.withFuses {s : State} (h : s.BodySound) (mode : s.mode ≠ .startup) (f : Fuses)
    (op : Option FuseOp) : ({ s with fuses := f, fuseOp := op } : State).BodySound := by
  obtain ⟨booked, undecided, core, unit⟩ := h
  exact ⟨{ booked with
    startup := fun m => absurd m mode
    tables := booked.tables.same rfl rfl rfl
    work := booked.work.same rfl rfl rfl rfl rfl }, undecided, core, unit⟩

theorem State.BodySound.endReservation {s : State} (h : s.BodySound) (mode : s.mode ≠ .startup) :
    s.endReservation.BodySound := by
  obtain ⟨booked, undecided, core, unit⟩ := h
  exact ⟨{ booked with
    reserved := rfl
    startup := fun m => absurd m mode
    tables := booked.tables.same rfl rfl rfl
    work := booked.work.same rfl rfl rfl rfl rfl }, undecided, core, unit⟩

theorem State.fuseFaultRecord_detail (s : State) (op : FuseOp) :
    (s.fuseFaultRecord op).detail.length = 8 := by
  unfold State.fuseFaultRecord
  split <;> simp [faultOf, padTo, zeros]

theorem State.BodySound.endOperation {s : State} (h : s.BodySound) (mode : s.mode ≠ .startup)
    (op : FuseOp) : (s.endOperation op).BodySound := by
  have idle := h.withFuses mode s.fuses none
  unfold State.endOperation
  split
  · exact idle.post _
  next k _ _ => exact ((idle.endReservation mode).rejectBound mode k).post _
  · exact idle.post _
  · exact idle.booked.warmReset _

theorem State.BodySound.failOperation {s : State} (h : s.BodySound) (mode : s.mode ≠ .startup)
    (op : FuseOp) : (s.failOperation op).BodySound := by
  have failed := ((h.withFuses mode s.fuses none).recordFault (s.fuseFaultRecord_detail op)).post
    .fuseDone
  unfold State.failOperation
  dsimp only
  split
  · exact failed
  next k _ _ =>
    split
    · exact (failed.endReservation mode).rejectBound mode k
    · exact failed.endReservation mode
  · exact failed
  · split
    · exact failed.booked.warmReset _
    · exact failed

theorem State.BodySound.finishBurn {s : State} (h : s.BodySound) (took : Bool) (strays : List Nat) :
    (s.finishBurn took strays).BodySound := by
  unfold State.finishBurn
  split
  · exact h
  next op working =>
    have mode : s.mode ≠ .startup := by
      intro m
      obtain ⟨-, -, -, -, -, -, idle, -⟩ := h.booked.startup m
      rw [idle] at working
      cases working
    have burnt := h.withFuses mode (arrayAfterBurn s.fuses op took strays) s.fuseOp
    dsimp only
    split
    · split
      · exact h.withFuses mode _ _
      · exact burnt.endOperation mode op
    · exact burnt.failOperation mode op

/-! ### Start-up -/

/-- What a part that leaves STARTUP keeps of it: no slot claimed, no unit at work (R1, R38, R58, R90). -/
theorem State.BodySound.leaves {s t : State} (h : s.BodySound) (mode : s.mode = .startup)
    (awake : s.deaf = false)
    (units : t.slots = s.slots ∧ t.ctxs = s.ctxs ∧ t.chunkQueue = s.chunkQueue ∧ t.core = s.core ∧
      t.jobs = s.jobs ∧ t.active = s.active ∧ t.reserved = s.reserved ∧ t.revoking = s.revoking ∧
      t.deaf = s.deaf ∧ t.failedCount = s.failedCount)
    (begun : t.selfTest = false) (left : t.mode ≠ .startup)
    (details : ∀ n : Fin 4, t.faults[n].detail.length = 8)
    (classes : ∀ c : Fin 8, t.classes[c].attempts ≤ 3 ∧ t.classes[c].state ≠ .verified)
    (timer : t.window.running = true ↔ t.mode = .verify)
    (tick : t.window.running = true → t.window.toTick.isSome = true)
    (undecided : t.Undecided) : t.BodySound := by
  obtain ⟨slots, ctxs, chunks, core, jobs, active, reserved, revoking, deaf, failed⟩ := units
  obtain ⟨booked, -, coreBusy, unit⟩ := h
  obtain ⟨freed, none, empty, idle, -⟩ := booked.startup mode
  exact ⟨{
    chunks := by rw [chunks]; exact booked.chunks
    jobs := by rw [jobs]; exact booked.jobs
    reserved := by rw [reserved, revoking]; exact booked.reserved
    buffers := fun i => by rw [slots]; exact booked.buffers i
    attempts := fun c => (classes c).1
    failed := by rw [failed]; exact booked.failed
    timer := timer
    tick := tick
    selfTest := fun running => by rw [begun] at running; cases running
    startup := fun m => absurd m left
    held := fun d => by rw [deaf, awake] at d; cases d
    tables := State.tablesSound_of_freed (fun i => by rw [slots]; exact freed i)
      fun c => (classes c).2
    work := State.workSound_of_none (fun i => by rw [slots, freed]; rfl)
      (fun x => by rw [ctxs]; exact none x) (by rw [chunks]; exact empty)
      (by rw [core]; exact idle) details },
    undecided, by rw [State.CoreBusy, core, chunks]; exact coreBusy, by rw [active, jobs]; exact unit⟩

theorem State.BodySound.stopped {s : State} (h : s.BodySound) (mode : s.mode = .startup) :
    s.window.running = false := by
  rw [← Bool.not_eq_true, h.booked.timer, mode]
  exact nofun

/-- In STARTUP no class is VERIFIED, since no slot is. -/
theorem State.BodySound.unverified {s : State} (h : s.BodySound) (mode : s.mode = .startup) (c : Fin 8) :
    s.classes[c].attempts ≤ 3 ∧ s.classes[c].state ≠ .verified := by
  refine ⟨h.booked.attempts c, fun verified => ?_⟩
  obtain ⟨i, won⟩ := Option.isSome_iff_exists.1 (h.booked.tables.winner c verified)
  have state := ((h.booked.tables.won c i).2 ⟨verified, won⟩).1
  rw [(h.booked.startup mode).1 i] at state
  cases state

theorem State.BodySound.enterFailsafe {s : State} (h : s.BodySound) (mode : s.mode = .startup)
    (awake : s.deaf = false) (begun : s.selfTest = false) {r : FaultRecord}
    (detail : r.detail.length = 8) : (s.enterFailsafe r).BodySound := by
  have stopped := h.stopped mode
  refine h.leaves mode awake ⟨rfl, rfl, rfl, rfl, rfl, rfl, rfl, rfl, rfl, rfl⟩ begun nofun ?_
    (h.unverified mode) ?_ ?_ nofun
  · exact (h.recordFault detail).booked.work.details
  · exact ⟨fun running => absurd (stopped.symm.trans running) nofun, nofun⟩
  · exact fun running => absurd (stopped.symm.trans running) nofun

theorem State.BodySound.enterProvision {s : State} (h : s.BodySound) (mode : s.mode = .startup)
    (awake : s.deaf = false) (begun : s.selfTest = false) :
    ({ s with mode := .provision } : State).BodySound := by
  have stopped := h.stopped mode
  refine h.leaves mode awake ⟨rfl, rfl, rfl, rfl, rfl, rfl, rfl, rfl, rfl, rfl⟩ begun nofun
    h.booked.work.details (h.unverified mode) ?_ ?_ nofun
  · exact ⟨fun running => absurd (stopped.symm.trans running) nofun, nofun⟩
  · exact fun running => absurd (stopped.symm.trans running) nofun

/-- The classes that the policy loads, at the entry to VERIFY and under the retry limit (R105, R123). -/
theorem loadedClasses_spec (p : Policy) (c : Fin 8) :
    (loadedClasses p)[c].attempts = 0 ∧ ((loadedClasses p)[c].state = .unused ∨
      (loadedClasses p)[c].state = .pending) := by
  rw [loadedClasses, tabulate_fin]
  refine ⟨rfl, ?_⟩
  dsimp only
  split
  · exact .inl rfl
  · exact .inr rfl

theorem loadedClasses_unverified (p : Policy) (c : Fin 8) :
    (loadedClasses p)[c].attempts ≤ 3 ∧ (loadedClasses p)[c].state ≠ .verified := by
  obtain ⟨attempts, state⟩ := loadedClasses_spec p c
  refine ⟨by omega, ?_⟩
  rcases state with e | e <;> rw [e] <;> exact nofun

theorem failedClasses_unverified {v : Vector ClassRec 8} {c : Fin 8}
    (h : v[c].attempts ≤ 3 ∧ v[c].state ≠ .verified) :
    (failedClasses v)[c].attempts ≤ 3 ∧ (failedClasses v)[c].state ≠ .verified := by
  rw [failedClasses, tabulate_fin]
  split
  · exact ⟨h.1, nofun⟩
  · exact h

theorem State.BodySound.settleRetryLimit {s : State} (h : s.BodySound) (mode : s.mode = .startup)
    (awake : s.deaf = false) (begun : s.selfTest = false) (p : Policy) :
    (s.settleRetryLimit p).BodySound := by
  have stopped := h.stopped mode
  refine h.leaves mode awake ⟨rfl, rfl, rfl, rfl, rfl, rfl, rfl, rfl, rfl, rfl⟩ begun nofun ?_
    (fun c => failedClasses_unverified (loadedClasses_unverified p c)) ?_ ?_ nofun
  · exact (h.recordFault (r := faultOf .retryLimit [byteOf s.failedCount, p.maxRetry])
      (padTo_length 8 _)).booked.work.details
  · exact ⟨fun running => absurd (stopped.symm.trans running) nofun, nofun⟩
  · exact fun running => absurd (stopped.symm.trans running) nofun

/-- A count set changes the window and the flags alone. -/
theorem State.setCount_eq (s : State) (w : Window) (count : Nat) : ∃ m e,
    s.setCount w count = { s with
      window := { w with count := count, toTick := some (tickInterval w.prescale) },
      linkM := m, linkE := e } := by
  simp only [State.setCount]
  split <;> exact ⟨_, _, rfl⟩

/-- The policy loaded at the entry to VERIFY, before the window (R141). -/
def State.loaded (s : State) (p : Policy) : State :=
  { s with mode := .verify, inForce := some p, classes := loadedClasses p, lines := loadedLines p }

/-- VERIFY entered, before the part settles on lines that are all DISABLED (R141). -/
def State.verifyEntered (s : State) (p : Policy) : State :=
  (s.loaded p).setCount (loadedWindow p) p.reload.toNat

theorem State.enterVerify_eq (s : State) (p : Policy) :
    s.enterVerify p = (s.verifyEntered p).settleIfDecided := rfl

theorem State.BodySound.verifyEntered {s : State} (h : s.BodySound) (mode : s.mode = .startup)
    (awake : s.deaf = false) (begun : s.selfTest = false) (p : Policy) :
    (s.verifyEntered p).Booked ∧ (s.verifyEntered p).CoreBusy ∧
      ((s.verifyEntered p).active = none → (s.verifyEntered p).jobs = []) := by
  obtain ⟨freed, none, empty, idle, waiting, resting, -⟩ := h.booked.startup mode
  obtain ⟨m, e, eq⟩ := (s.loaded p).setCount_eq (loadedWindow p) p.reload.toNat
  rw [State.verifyEntered, eq]
  refine ⟨{ h.booked with
    attempts := fun c => (loadedClasses_unverified p c).1
    timer := ⟨fun _ => rfl, fun _ => rfl⟩
    tick := fun _ => rfl
    selfTest := fun running => absurd (begun.symm.trans running) nofun
    startup := nofun
    held := fun d => absurd (awake.symm.trans d) nofun
    tables := State.tablesSound_of_freed freed fun c => (loadedClasses_unverified p c).2
    work := h.booked.work.same rfl rfl rfl rfl rfl }, h.core, h.unit⟩

theorem State.BodySound.enterVerify {s : State} (h : s.BodySound) (mode : s.mode = .startup)
    (awake : s.deaf = false) (begun : s.selfTest = false) (p : Policy) :
    (s.enterVerify p).BodySound := by
  obtain ⟨booked, core, unit⟩ := h.verifyEntered mode awake begun p
  have entered : (s.verifyEntered p).mode = .verify := by
    obtain ⟨m, e, eq⟩ := (s.loaded p).setCount_eq (loadedWindow p) p.reload.toNat
    rw [State.verifyEntered, eq]
    rfl
  obtain ⟨settled, undecided⟩ := booked.settleIfDecided (by rw [entered]; exact nofun)
  have wanes := (s.verifyEntered p).settleIfDecided_wanes
  have units := (s.verifyEntered p).settleIfDecided_sameUnits
  exact ⟨settled, undecided, wanes.coreBusy units core, wanes.unit units unit⟩

theorem State.selfTestFault_detail {s : State} {r : FaultRecord} (h : s.selfTestFault = some r) :
    r.detail.length = 8 := by
  simp only [State.selfTestFault] at h
  split at h
  next e =>
    obtain rfl := Option.some.inj h
    simp only [State.romFault] at e
    split at e
    · cases e
    · obtain rfl := Option.some.inj e
      exact padTo_length 8 _
  · split at h
    next e =>
      obtain rfl := Option.some.inj h
      simp only [State.floorFault] at e
      split at e
      · cases e
      · obtain rfl := Option.some.inj e
        exact padTo_length 8 _
    · split at h
      · simp only [State.policyFaultRecord] at h
        split at h
        · cases h
        · obtain rfl := Option.some.inj h
          exact padTo_length 8 _
      · cases h

theorem State.BodySound.endSelfTest {s : State} (h : s.BodySound) : s.endSelfTest.BodySound := by
  unfold State.endSelfTest
  split
  next running =>
    have mode := h.booked.selfTest running
    have awake : s.deaf = false := by
      rw [← Bool.not_eq_true]
      intro d
      rw [(h.booked.held d).2] at running
      cases running
    have ended : ({ s with selfTest := false } : State).BodySound := by
      obtain ⟨booked, undecided, core, unit⟩ := h
      exact ⟨{ booked with
        selfTest := nofun
        held := fun d => absurd (awake.symm.trans d) nofun
        tables := booked.tables.same rfl rfl rfl
        work := booked.work.same rfl rfl rfl rfl rfl }, undecided, core, unit⟩
    dsimp only
    split
    next r failed => exact ended.enterFailsafe mode awake rfl (State.selfTestFault_detail failed)
    · split
      · split
        · exact ended.settleRetryLimit mode awake rfl _
        · exact ended.enterVerify mode awake rfl _
      · exact ended.enterProvision mode awake rfl
  · exact h

/-! ### Every event -/

theorem State.deaf_of_supplyLow {s : State} (h : s.supplyLow = true) : s.deaf = true := by
  simp [State.deaf, h]

theorem State.deaf_of_resetNLow {s : State} (h : s.resetNLow = true) : s.deaf = true := by
  simp [State.deaf, h]

theorem State.Event.bodySound {s t : State} (event : s.Event t) (h : s.BodySound) : t.BodySound := by
  cases event with
  | serves served => exact served.bodySound h
  | chunk => exact h.finishChunk
  | manifestJob => exact h.endManifestJob
  | revokeJob => exact h.endRevokeJob
  | burn took strays => exact h.finishBurn took strays
  | selfTest => exact h.endSelfTest
  | ticks => exact h.tick
  | clock => exact h.clock
  | cold cause => exact State.cold_bodySound _
  | warm low cause =>
    exact State.warmReset_bodySound (s := { s with resetNLow := low }) h.booked.failed
      h.booked.work.details cause
  | falls supply =>
    obtain ⟨booked, undecided, core, unit⟩ := h
    exact ⟨{ booked with
      held := fun _ => booked.held (State.deaf_of_supplyLow supply)
      tables := booked.tables.same rfl rfl rfl
      work := booked.work.same rfl rfl rfl rfl rfl }, undecided, core, unit⟩
  | rises low =>
    obtain ⟨booked, undecided, core, unit⟩ := h
    have mode := (booked.held (State.deaf_of_resetNLow low)).1
    refine ⟨{ booked with
      selfTest := fun _ => mode
      held := fun d => ⟨mode, ?_⟩
      tables := booked.tables.same rfl rfl rfl
      work := booked.work.same rfl rfl rfl rfl rfl }, undecided, core, unit⟩
    simpa [State.deaf] using d

/-- The bookkeeping beside the links is kept by every command. -/
theorem State.Moves.bodySound {s t : State} (moves : s.Moves t) : s.BodySound → t.BodySound :=
  moves.keeps State.SameBody.bodySound State.Event.bodySound

end Sys2Proof.Machine
end

section
/-! SUPPORT. What the events beside the links leave of the links: all but the flags that they post. -/

namespace Sys2Proof.Machine

/-- States whose links differ in flags set alone, with the same window of Link M, pending RESTART, levels at
the pins and queue. -/
structure State.Quiet (s t : State) : Prop where
  linkM   : s.linkM.Gains t.linkM
  linkE   : s.linkE.Gains t.linkE
  restart : t.restartPending = s.restartPending
  spi     : t.spi = s.spi
  ignored : t.windowIgnored = s.windowIgnored
  resetN  : t.resetNLow = s.resetNLow
  supply  : t.supplyLow = s.supplyLow
  pending : t.pending = s.pending

theorem State.Quiet.refl (s : State) : s.Quiet s := ⟨.refl _, .refl _, rfl, rfl, rfl, rfl, rfl, rfl⟩

theorem State.Quiet.trans {s t u : State} (h : s.Quiet t) (k : t.Quiet u) : s.Quiet u where
  linkM := h.linkM.trans k.linkM
  linkE := h.linkE.trans k.linkE
  restart := k.restart.trans h.restart
  spi := k.spi.trans h.spi
  ignored := k.ignored.trans h.ignored
  resetN := k.resetN.trans h.resetN
  supply := k.supply.trans h.supply
  pending := k.pending.trans h.pending

theorem State.Quiet.deaf {s t : State} (h : s.Quiet t) : t.deaf = s.deaf := by
  rw [State.deaf, State.deaf, h.resetN, h.supply]

theorem State.Wanes.quiet {s t : State} (wanes : s.Wanes t) (units : s.SameUnits t) : s.Quiet t := by
  have gains := wanes.linkM
  have gainsE := wanes.linkE
  obtain ⟨_, _, _, _, _, _, _, _, _, _, _, _, _, rfl⟩ := units
  exact ⟨gains, gainsE, rfl, rfl, rfl, rfl, rfl, rfl⟩

theorem State.post_quiet (s : State) (f : EventFlag) : s.Quiet (s.post f) :=
  (s.post_wanes f).quiet (s.post_sameUnits f)

theorem State.recordFault_quiet (s : State) (r : FaultRecord) : s.Quiet (s.recordFault r) :=
  (s.recordFault_wanes r).quiet (s.recordFault_sameUnits r)

theorem State.conclude_quiet (b s : State) : s.Quiet (b.conclude s) :=
  (b.conclude_wanes s).quiet (b.conclude_sameUnits s)

theorem State.endStarts_quiet (s : State) : s.Quiet s.endStarts :=
  s.endStarts_wanes.quiet s.endStarts_sameUnits

theorem State.jobReport_quiet (s : State) (i : Fin 12) (g : Byte) (r : JobResult) :
    s.Quiet (s.jobReport i g r) := (s.jobReport_wanes i g r).quiet (s.jobReport_sameUnits i g r)

theorem State.completeCtx_quiet (s : State) (x : Fin 4) (c : Claim) : s.Quiet (s.completeCtx x c) :=
  (s.completeCtx_wanes x c).quiet (s.completeCtx_sameUnits x c)

theorem State.rejectBound_quiet (s : State) (k : Fin 10) : s.Quiet (s.rejectBound k) :=
  ((s.rejectAll_wanes _ _ _).trans (s.conclude_wanes _)).quiet (s.rejectBound_sameUnits k)

theorem State.takeJob_quiet (s : State) : s.Quiet s.takeJob := by
  unfold State.takeJob
  split
  · exact .refl s
  · exact ⟨.refl _, .refl _, rfl, rfl, rfl, rfl, rfl, rfl⟩

theorem State.startNext_quiet (b s : State) : s.Quiet (b.startNext s) := by
  unfold State.startNext
  split
  · exact b.conclude_quiet s
  · exact ((s.endStarts_quiet.trans (b.conclude_quiet _)).trans (State.endStarts_quiet _)).trans
      (State.takeJob_quiet _)

theorem State.placeJob_quiet (s : State) (j : Job) : s.Quiet (s.placeJob j) := by
  have placed : s.Quiet { s with jobs := s.jobs ++ [j] } := ⟨.refl _, .refl _, rfl, rfl, rfl, rfl, rfl, rfl⟩
  exact placed.trans (s.startNext_quiet _)

theorem State.coreTake_quiet (s : State) : s.Quiet s.coreTake := by
  unfold State.coreTake
  split <;> exact ⟨.refl _, .refl _, rfl, rfl, rfl, rfl, rfl, rfl⟩

theorem State.setCount_quiet (s : State) (w : Window) (count : Nat) : s.Quiet (s.setCount w count) := by
  have counted : s.Quiet
      { s with window := { w with count := count, toTick := some (tickInterval w.prescale) } } :=
    ⟨.refl _, .refl _, rfl, rfl, rfl, rfl, rfl, rfl⟩
  simp only [State.setCount]
  split
  · exact counted.trans (State.post_quiet _ _)
  · exact counted

theorem State.drop_quiet (s : State) (i : Fin 12) : s.Quiet (s.drop i) := by
  have freed (t : State) (y : Slot) : t.Quiet (t.setSlot i y) := ⟨.refl _, .refl _, rfl, rfl, rfl, rfl, rfl, rfl⟩
  have released : s.Quiet (s.release i) := (s.release_wanes i).quiet (s.release_sameUnits i)
  simp only [State.drop]
  split
  · exact .refl s
  · split
    · exact (released.trans (freed _ _)).trans (s.conclude_quiet _)
    · exact freed s _

/-- A request that is served posts flags and answers no link. -/
theorem State.Serves.quiet {s t : State} (h : s.Serves t) : s.Quiet t := by
  cases h with
  | opens => exact ⟨.refl _, .refl _, rfl, rfl, rfl, rfl, rfl, rfl⟩
  | appends => exact ⟨.refl _, .refl _, rfl, rfl, rfl, rfl, rfl, rfl⟩
  | rejects i e =>
    exact ((s.reject_wanes i e.code none e.key e.detail).quiet
      (s.reject_sameUnits i e.code none e.key e.detail)).trans (s.conclude_quiet _)
  | checks i c p =>
    refine .trans ?_ (State.placeJob_quiet _ _)
    exact ⟨.refl _, .refl _, rfl, rfl, rfl, rfl, rfl, rfl⟩
  | drops i => exact s.drop_quiet i
  | claims => exact ⟨.refl _, .refl _, rfl, rfl, rfl, rfl, rfl, rfl⟩
  | queues x c data =>
    unfold State.acceptChunk
    refine .trans ?_ (State.coreTake_quiet _)
    exact ⟨.refl _, .refl _, rfl, rfl, rfl, rfl, rfl, rfl⟩
  | closes x c =>
    simp only [State.closeSegment]
    split
    · exact s.completeCtx_quiet x _
    · exact ⟨.refl _, .refl _, rfl, rfl, rfl, rfl, rfl, rfl⟩
  | declines c => exact (s.decline_wanes c).quiet (s.decline_sameUnits c)
  | reloads => exact s.setCount_quiet _ _
  | starts => exact ⟨.refl _, .refl _, rfl, rfl, rfl, rfl, rfl, rfl⟩
  | notices l target signer signature =>
    have reserved : s.Quiet { s with reserved := true, revoking := some target } :=
      ⟨.refl _, .refl _, rfl, rfl, rfl, rfl, rfl, rfl⟩
    exact reserved.trans (State.placeJob_quiet _ _)
  | stages => exact ⟨.refl _, .refl _, rfl, rfl, rfl, rfl, rfl, rfl⟩

theorem State.finishChunk_quiet (s : State) : s.Quiet s.finishChunk := by
  have idle : s.Quiet { s with core := none } := ⟨.refl _, .refl _, rfl, rfl, rfl, rfl, rfl, rfl⟩
  unfold State.finishChunk
  split
  · exact .refl s
  · refine .trans ?_ (State.coreTake_quiet _)
    split
    · exact idle
    · dsimp only
      split
      · exact idle.trans (State.completeCtx_quiet _ _ _)
      · exact ⟨.refl _, .refl _, rfl, rfl, rfl, rfl, rfl, rfl⟩

theorem State.endManifestJob_quiet (s : State) : s.Quiet s.endManifestJob := by
  have idle : s.Quiet { s with active := none } := ⟨.refl _, .refl _, rfl, rfl, rfl, rfl, rfl, rfl⟩
  unfold State.endManifestJob
  split
  · exact (idle.trans (State.jobReport_quiet _ _ _ _)).trans (s.startNext_quiet _)
  · exact .refl s

theorem State.endRevokeJob_quiet (s : State) : s.Quiet s.endRevokeJob := by
  have idle : s.Quiet { s with active := none } := ⟨.refl _, .refl _, rfl, rfl, rfl, rfl, rfl, rfl⟩
  unfold State.endRevokeJob
  split
  · refine .trans ?_ (State.startNext_quiet _ _)
    split
    · exact ⟨.refl _, .refl _, rfl, rfl, rfl, rfl, rfl, rfl⟩
    · have freed : s.Quiet (({ s with active := none } : State).endReservation) :=
        ⟨.refl _, .refl _, rfl, rfl, rfl, rfl, rfl, rfl⟩
      exact (freed.trans (State.recordFault_quiet _ _)).trans (State.post_quiet _ _)
  · exact .refl s

theorem State.tick_quiet (s : State) : s.Quiet s.tick := by
  rcases s.tick_cases with ⟨-, e⟩ | ⟨-, -, e⟩ | ⟨-, -, e⟩ <;> rw [e]
  · exact .refl s
  · exact s.expire_wanes.quiet s.expire_sameUnits
  · exact s.setCount_quiet _ _

theorem State.enterVerify_quiet (s : State) (p : Policy) : s.Quiet (s.enterVerify p) := by
  have loaded : s.Quiet (s.loaded p) := ⟨.refl _, .refl _, rfl, rfl, rfl, rfl, rfl, rfl⟩
  rw [s.enterVerify_eq]
  exact (loaded.trans (State.setCount_quiet _ _ _)).trans
    ((State.settleIfDecided_wanes _).quiet (State.settleIfDecided_sameUnits _))

theorem State.endSelfTest_quiet (s : State) : s.Quiet s.endSelfTest := by
  have tested : s.Quiet { s with selfTest := false } := ⟨.refl _, .refl _, rfl, rfl, rfl, rfl, rfl, rfl⟩
  unfold State.endSelfTest
  split
  · dsimp only
    split
    · unfold State.enterFailsafe
      exact { tested.trans (State.recordFault_quiet _ _) with }
    · split
      · split
        · unfold State.settleRetryLimit
          refine .trans ?_ (State.post_quiet _ _)
          exact { tested.trans (State.recordFault_quiet _ _) with }
        · exact tested.trans (State.enterVerify_quiet _ _)
      · exact { tested with }
  · exact .refl s

end Sys2Proof.Machine
end

section
/-! SUPPORT. The bookkeeping of the links, kept by every event (11.2 to 11.4). -/

namespace Sys2Proof.Machine

/-- The bookkeeping of the links that every stage of an event keeps: that of `State.LinksSound`, but for the
held frames, which `State.Behind` speaks of. -/
structure State.Wired (s : State) : Prop where
  heldM     : s.linkM.held = []
  heldE     : s.linkE.held.length ≤ 2
  waitM     : s.linkM.parked = none ∨ s.linkM.waitReply = none
  waitE     : s.linkE.parked = none ∨ s.linkE.waitReply = none
  restart   : s.restartPending = true → s.linkM.ordinary.isSome = true
  fresh     : s.deaf = true → s.linkM = LinkState.fresh ∧ s.linkE = LinkState.fresh
  assembles : s.linkM.rx ≠ .hunting ↔ s.spi = .request ∧ s.windowIgnored = false
  opened    : (s.windowIgnored = true → s.spi ≠ .shut) ∧
    (s.deaf = true → s.spi ≠ .shut → s.windowIgnored = true)
  ignored   : s.windowIgnored = true → s.linkM.rx = .hunting ∧ s.linkM.ordinary = none ∧
    s.linkM.waitReply = none ∧ s.linkM.parked = none

/-- Held frames of Link E wait on a reply or a RESTART (R171). -/
def State.Behind (s : State) : Prop :=
  s.linkE.held = [] ∨ s.linkE.ordinary.isSome = true ∨ s.restartPending = true

theorem State.LinksSound.wired {s : State} (h : s.LinksSound) : s.Wired where
  heldM := h.heldM
  heldE := h.heldE
  waitM := h.waitM
  waitE := h.waitE
  restart := h.restart
  fresh := fun d => (h.held d).2.2
  assembles := h.assembles
  opened := h.opened
  ignored := h.ignored

theorem State.Wired.linksSound {s : State} (h : s.Wired) (behind : s.Behind)
    (held : s.deaf = true → s.mode = .startup ∧ s.selfTest = false) : s.LinksSound where
  heldM := h.heldM
  heldE := h.heldE
  behind := behind
  waitM := h.waitM
  waitE := h.waitE
  restart := h.restart
  held := fun d => ⟨(held d).1, (held d).2, h.fresh d⟩
  assembles := h.assembles
  opened := h.opened
  ignored := h.ignored

/-! ### What a frame that is taken does to the links -/

/-- A link before and after a frame is taken: its assembly and its held frames as they were, no reply gone,
and no second WAIT outstanding (R165, R171). -/
structure LinkState.Fed (x y : LinkState) : Prop where
  rx       : y.rx = x.rx
  held     : y.held = x.held
  ordinary : x.ordinary.isSome = true → y.ordinary.isSome = true
  wait     : x.parked = none ∨ x.waitReply = none → y.parked = none ∨ y.waitReply = none

theorem LinkState.Fed.refl (x : LinkState) : x.Fed x := ⟨rfl, rfl, id, id⟩

theorem LinkState.Fed.trans {x y z : LinkState} (h : x.Fed y) (k : y.Fed z) : x.Fed z :=
  ⟨k.rx.trans h.rx, k.held.trans h.held, fun o => k.ordinary (h.ordinary o), fun w => k.wait (h.wait w)⟩

theorem LinkState.Gains.fed {x y : LinkState} (h : x.Gains y) : x.Fed y := by
  obtain ⟨bits, rfl⟩ := h
  exact ⟨rfl, rfl, id, id⟩

/-- A link that offers nothing: no reply waits on it and no WAIT is parked. -/
def LinkState.Silent (x : LinkState) : Prop := x.ordinary = none ∧ x.waitReply = none ∧ x.parked = none

theorem LinkState.Gains.silent {x y : LinkState} (h : x.Gains y) (k : x.Silent) : y.Silent := by
  obtain ⟨bits, rfl⟩ := h
  exact k

theorem LinkState.answerParked_fed (x : LinkState) : x.Fed x.answerParked := by
  rcases x.answerParked_cases with ⟨e, -⟩ | ⟨w, -, -, e⟩ <;> rw [e]
  · exact .refl x
  · exact ⟨rfl, rfl, id, fun _ => .inl rfl⟩

theorem LinkState.close_fed (x : LinkState) : x.Fed x.close :=
  x.answerParked_fed.trans ⟨rfl, rfl, id, id⟩

theorem LinkState.Silent.close {x : LinkState} (h : x.Silent) : x.close.Silent := by
  obtain ⟨ordinary, waitReply, parked⟩ := h
  have still : x.answerParked = x := by simp only [LinkState.answerParked, parked]
  rw [LinkState.close, still]
  exact ⟨ordinary, waitReply, parked⟩

/-- What taking a frame, and closing its event, does to the links: each is fed, one whose window is ignored
stays silent, and a RESTART becomes pending with its reply alone (R152). -/
structure State.Feeds (s t : State) : Prop where
  linkM   : s.linkM.Fed t.linkM
  linkE   : s.linkE.Fed t.linkE
  deaf    : t.deaf = s.deaf
  spi     : t.spi = s.spi
  ignored : t.windowIgnored = s.windowIgnored
  silent  : s.windowIgnored = true → s.linkM.Silent → t.linkM.Silent
  restart : t.restartPending = s.restartPending ∨
    t.restartPending = true ∧ t.linkM.ordinary.isSome = true

theorem State.Feeds.refl (s : State) : s.Feeds s := ⟨.refl _, .refl _, rfl, rfl, rfl, fun _ h => h, .inl rfl⟩

theorem State.Feeds.trans {s t u : State} (h : s.Feeds t) (k : t.Feeds u) : s.Feeds u where
  linkM := h.linkM.trans k.linkM
  linkE := h.linkE.trans k.linkE
  deaf := k.deaf.trans h.deaf
  spi := k.spi.trans h.spi
  ignored := k.ignored.trans h.ignored
  silent i x := k.silent (h.ignored.trans i) (h.silent i x)
  restart := by
    rcases k.restart with e | e
    · rcases h.restart with d | ⟨d, o⟩
      · exact .inl (e.trans d)
      · exact .inr ⟨e.trans d, k.linkM.ordinary o⟩
    · exact .inr e

theorem State.Quiet.feeds {s t : State} (h : s.Quiet t) : s.Feeds t where
  linkM := h.linkM.fed
  linkE := h.linkE.fed
  deaf := h.deaf
  spi := h.spi
  ignored := h.ignored
  silent _ x := h.linkM.silent x
  restart := .inl h.restart

theorem State.commit_feeds (s : State) : s.Feeds s.commit where
  linkM := s.linkM.close_fed
  linkE := s.linkE.close_fed
  deaf := rfl
  spi := rfl
  ignored := rfl
  silent _ x := x.close
  restart := .inl rfl

/-- A link fed alone; Link M, in a window that is not ignored. -/
theorem State.onLink_feeds {s : State} {l : Link} {f : LinkState → LinkState} (fed : (s.link l).Fed (f (s.link l)))
    (taken : l = .m → s.windowIgnored = false) : s.Feeds (s.onLink l f) := by
  cases l with
  | m => exact ⟨fed, .refl _, rfl, rfl, rfl, fun i => absurd ((taken rfl).symm.trans i) nofun, .inl rfl⟩
  | e => exact ⟨.refl _, fed, rfl, rfl, rfl, fun _ h => h, .inl rfl⟩

theorem State.linkError_feeds (s : State) (l : Link) : s.Feeds (s.linkError l) := by
  cases l with
  | m => exact ⟨⟨rfl, rfl, id, id⟩, .refl _, rfl, rfl, rfl, fun _ h => h, .inl rfl⟩
  | e => exact ⟨.refl _, ⟨rfl, rfl, id, id⟩, rfl, rfl, rfl, fun _ h => h, .inl rfl⟩

section
variable {s : State} {l : Link} (taken : l = .m → s.windowIgnored = false)
include taken

theorem State.putReply_feeds (r : Reply) : s.Feeds (s.putReply l r) :=
  State.onLink_feeds ⟨rfl, rfl, fun _ => rfl, id⟩ taken

theorem State.badCrc_feeds (f : Frame) : s.Feeds (s.badCrc l f) := by
  refine (s.linkError_feeds l).trans (State.putReply_feeds (fun e => ?_) _)
  rw [(s.linkError_feeds l).ignored]
  exact taken e

theorem State.answer_feeds {f : Frame} {served : Served} (h : s.Feeds served.1) :
    s.Feeds (State.answer l f served) := by
  unfold State.answer
  split
  · exact h.trans (State.putReply_feeds (fun e => h.ignored.trans (taken e)) _)
  · exact h

theorem takeWait_feeds (f : Frame) : s.Feeds (takeWait l f s).1 := by
  simp only [takeWait]
  split
  · exact .refl s
  · split
    · exact .refl s
    next free =>
      have outstanding : (s.link l).parked = none ∧ (s.link l).waitReply = none := by
        simpa [LinkState.waitOutstanding] using free
      split <;> dsimp only
      · refine State.onLink_feeds ?_ taken
        exact ⟨rfl, rfl, id, fun _ => .inr outstanding.2⟩
      · refine State.onLink_feeds ?_ taken
        exact ⟨rfl, rfl, id, fun _ => .inl outstanding.1⟩

/-- Every kind but RESTART leaves a pending RESTART as it was. -/
theorem handlerOf_feeds {k : Kind} (kind : k ≠ .restart) (f : Frame) : s.Feeds (handlerOf k l f s).1 := by
  cases acts : actsOnLink k with
  | false =>
    rcases handlerOf_served acts l f s with e | served
    · rw [e]; exact .refl s
    · exact served.quiet.feeds
  | true =>
    cases k with
    | eventMask =>
      exact State.onLink_feeds (f := fun x => { x with attnMask := maskOperand f.payload })
        ⟨rfl, rfl, id, id⟩ taken
    | eventClear =>
      exact State.onLink_feeds
        (f := fun x => { x with flags := (s.link l).flags &&& ~~~(maskOperand f.payload) })
        ⟨rfl, rfl, id, id⟩ taken
    | wait => exact takeWait_feeds taken f
    | restart => exact absurd rfl kind
    | _ => cases acts

/-- A RESTART taken on Link M is pending, its reply ready (R152). -/
theorem takeRestart_feeds (f : Frame) : s.Feeds (State.answer l f (takeRestart l f s)) := by
  cases l with
  | m =>
    exact ⟨⟨rfl, rfl, fun _ => rfl, id⟩, .refl _, rfl, rfl, rfl,
      fun i => absurd ((taken rfl).symm.trans i) nofun, .inr ⟨rfl, rfl⟩⟩
  | e => exact State.answer_feeds taken (.refl s)

theorem takeRequest_feeds (k : Kind) (f : Frame) : s.Feeds (takeRequest k (handlerOf k) l f s) := by
  unfold takeRequest
  split
  · exact State.badCrc_feeds taken f
  · split
    · exact State.answer_feeds taken (.refl s)
    · by_cases kind : k = .restart
      · subst kind
        exact takeRestart_feeds taken f
      · exact State.answer_feeds taken (handlerOf_feeds taken kind f)

theorem takeFrame_feeds (f : Frame) : s.Feeds (takeFrame l f s) := by
  unfold takeFrame
  split
  · exact takeRequest_feeds taken _ f
  · split
    · exact State.badCrc_feeds taken f
    · exact State.answer_feeds taken (.refl s)

end

/-! ### What keeps the links sound -/

theorem State.Feeds.wired {s t : State} (f : s.Feeds t) (h : s.Wired) (awake : s.deaf = false) :
    t.Wired where
  heldM := f.linkM.held.trans h.heldM
  heldE := by rw [f.linkE.held]; exact h.heldE
  waitM := f.linkM.wait h.waitM
  waitE := f.linkE.wait h.waitE
  restart pending := by
    rcases f.restart with e | ⟨-, o⟩
    · exact f.linkM.ordinary (h.restart (e.symm.trans pending))
    · exact o
  fresh d := absurd (awake.symm.trans (f.deaf.symm.trans d)) nofun
  assembles := by rw [f.linkM.rx, f.spi, f.ignored]; exact h.assembles
  opened := by rw [f.ignored, f.spi, f.deaf]; exact h.opened
  ignored i := by
    obtain ⟨rx, silent⟩ := h.ignored (f.ignored.symm.trans i)
    exact ⟨f.linkM.rx.trans rx, f.silent (f.ignored.symm.trans i) silent⟩

theorem State.Feeds.behind {s t : State} (f : s.Feeds t) (h : s.Behind) : t.Behind := by
  rcases h with e | e | e
  · exact .inl (f.linkE.held.trans e)
  · exact .inr (.inl (f.linkE.ordinary e))
  · rcases f.restart with d | ⟨d, -⟩
    · exact .inr (.inr (d.trans e))
    · exact .inr (.inr d)

theorem State.Wired.commit {s : State} (h : s.Wired) : s.commit.Wired := by
  cases deaf : s.deaf with
  | false => exact s.commit_feeds.wired h deaf
  | true =>
    obtain ⟨m, e⟩ := h.fresh deaf
    have linkM : s.commit.linkM = s.linkM := (congrArg LinkState.close m).trans m.symm
    have linkE : s.commit.linkE = s.linkE := (congrArg LinkState.close e).trans e.symm
    exact ⟨linkM ▸ h.heldM, linkE ▸ h.heldE, linkM ▸ h.waitM, linkE ▸ h.waitE, linkM ▸ h.restart,
      fun _ => ⟨linkM.trans m, linkE.trans e⟩, linkM ▸ h.assembles, h.opened, linkM ▸ h.ignored⟩

theorem State.Behind.commit {s : State} (h : s.Behind) : s.commit.Behind := s.commit_feeds.behind h

theorem State.cold_wired (s : State) : s.cold.Wired ∧ s.cold.Behind := by
  refine ⟨{
    heldM := rfl
    heldE := Nat.zero_le _
    waitM := .inl rfl
    waitE := .inl rfl
    restart := nofun
    fresh := fun _ => ⟨rfl, rfl⟩
    assembles := ⟨fun h => absurd rfl h, fun ⟨spi, shut⟩ => ?_⟩
    opened := ⟨fun i => ?_, fun _ o => ?_⟩
    ignored := fun _ => ⟨rfl, rfl, rfl, rfl⟩ }, .inl rfl⟩
  · have opened : s.spi = .request := spi
    have closed : (s.spi != .shut) = false := shut
    rw [opened] at closed
    cases closed
  · exact bne_iff_ne.1 i
  · exact bne_iff_ne.2 o

theorem State.warmReset_wired (s : State) (cause : ResetCause) :
    (s.warmReset cause).Wired ∧ (s.warmReset cause).Behind := by
  obtain ⟨wired, behind⟩ := s.cold_wired
  exact ⟨{ wired with }, behind⟩

end Sys2Proof.Machine
end

section
/-! SUPPORT. The bookkeeping of the links kept by windows, frames, replies and resets, and so by every step. -/

namespace Sys2Proof.Machine

/-- The bookkeeping of the links between two events. -/
def State.LinksHold (s : State) : Prop := s.Wired ∧ s.Behind

theorem State.LinksHold.feeds {s t : State} (h : s.LinksHold) (f : s.Feeds t) (awake : s.deaf = false) :
    t.LinksHold := ⟨f.wired h.1 awake, f.behind h.2⟩

theorem State.LinksHold.commit {s : State} (h : s.LinksHold) : s.commit.LinksHold :=
  ⟨h.1.commit, h.2.commit⟩

theorem State.not_deaf {s : State} (h : ¬s.deaf = true) : s.deaf = false := by simpa using h

/-! ### The windows of Link M -/

/-- Outside a request window that is not ignored nothing is being assembled on Link M (R174). -/
theorem State.Wired.hunting {s : State} (h : s.Wired) (past : s.spi ≠ .request ∨ s.windowIgnored = true) :
    s.linkM.rx = .hunting := by
  by_contra assembling
  obtain ⟨request, taken⟩ := h.assembles.1 assembling
  rcases past with e | e
  · exact e request
  · rw [taken] at e
    cases e

theorem State.Wired.not_assembling {s : State} (h : s.Wired) (free : s.assembling = false) :
    s.linkM.rx = .hunting := by
  refine h.hunting (Classical.or_iff_not_imp_left.2 fun request => ?_)
  rw [State.assembling, Classical.not_not.1 request] at free
  simpa using free

/-- A window begins while nothing is being assembled (R173). -/
theorem State.Wired.windowFalls {s : State} (h : s.Wired) (hunting : s.linkM.rx = .hunting) :
    s.windowFalls.Wired :=
  { h with
    assembles := ⟨fun ne => absurd hunting ne, nofun⟩
    opened := ⟨fun _ => nofun, fun d _ => d⟩
    ignored := fun d => by
      obtain ⟨m, -⟩ := h.fresh d
      exact ⟨hunting, by rw [State.windowFalls, m]; exact ⟨rfl, rfl, rfl⟩⟩ }

theorem State.Wired.windowRises {s : State} (h : s.Wired) (hunting : s.linkM.rx = .hunting) :
    s.windowRises.Wired :=
  { h with
    assembles := ⟨fun ne => absurd hunting ne, nofun⟩
    opened := ⟨nofun, fun _ o => absurd rfl o⟩
    ignored := nofun }

theorem SpiWindow.past_ne {w : SpiWindow} (h : w.past = true) : w ≠ .request := by
  rintro rfl
  cases h

theorem State.Wired.frameWindow {s : State} (h : s.Wired) : s.frameWindow.Wired := by
  unfold State.frameWindow
  split
  next past => exact h.windowFalls (h.hunting (.inl (SpiWindow.past_ne past)))
  · exact h

theorem State.frameWindow_open (s : State) : s.frameWindow.spi ≠ .shut := by
  unfold State.frameWindow
  split
  · exact nofun
  next past =>
    intro e
    rw [e] at past
    exact past rfl

/-- Of a window that has begun nothing more comes (R174, R175). -/
theorem State.Wired.lost {s : State} (h : s.Wired) (lost : s.windowIgnored = true) (w : SpiWindow)
    (opened : w ≠ .shut) : ({ s with spi := w } : State).Wired :=
  { h with
    assembles := ⟨fun ne => absurd (h.ignored lost).1 ne, fun ⟨_, taken⟩ => absurd (lost.symm.trans taken) nofun⟩
    opened := ⟨fun _ => opened, fun _ _ => lost⟩ }

/-- The assembly of a window in which a frame ends is HUNTING again, and the window spent. -/
theorem State.Wired.spends {s : State} (h : s.Wired) (awake : s.deaf = false) :
    ((s.hunt .m).spendWindow .m).Wired :=
  { h with
    fresh := fun d => absurd (awake.symm.trans d) nofun
    assembles := ⟨fun ne => absurd rfl ne, nofun⟩
    opened := ⟨nofun, fun d => absurd (awake.symm.trans d) nofun⟩
    ignored := nofun }

/-- A request window's SYNC (R152, R174, R176). -/
theorem State.Wired.sync {s : State} (h : s.Wired) (awake : s.deaf = false)
    (taken : s.windowIgnored = false) : s.sync.Wired := by
  have begun : (({ s with spi := .request } : State).onLink .m fun x =>
      { x with rx := .assembling [0xA5] }).Wired :=
    { h with
      fresh := fun d => absurd (awake.symm.trans d) nofun
      assembles := ⟨fun _ => ⟨rfl, taken⟩, fun _ => nofun⟩
      opened := ⟨fun _ => nofun, fun d => absurd (awake.symm.trans d) nofun⟩
      ignored := fun i => absurd (taken.symm.trans i) nofun }
  simp only [State.sync]
  split
  · simp only [State.removeUnread]
    split
    · exact (State.warmReset_wired _ _).1
    next idle =>
      have idle : s.restartPending = false := by simpa using idle
      exact { begun with
        restart := fun p => absurd (idle.symm.trans p) nofun
        fresh := fun d => absurd (awake.symm.trans d) nofun
        ignored := fun i => absurd (taken.symm.trans i) nofun }
  · exact begun

theorem State.Behind.sync {s : State} (h : s.Behind) : s.sync.Behind := by
  simp only [State.sync]
  split
  · simp only [State.removeUnread]
    split
    · exact (State.warmReset_wired _ _).2
    · exact h
  · exact h

theorem State.sync_deaf (s : State) : s.sync.deaf = s.deaf := by
  simp only [State.sync]
  split
  · simp only [State.removeUnread]
    split <;> rfl
  · rfl

theorem State.LinksHold.windowSync {s : State} (h : s.LinksHold) (awake : s.deaf = false)
    (taken : s.windowIgnored = false) : s.windowSync.LinksHold ∧ s.windowSync.deaf = false := by
  unfold State.windowSync
  split
  · exact ⟨State.LinksHold.commit ⟨h.1.sync awake taken, h.2.sync⟩, s.sync_deaf.trans awake⟩
  · exact ⟨h, awake⟩

/-- The end of a frame in a window of Link M (R152, R173, R174). -/
theorem State.LinksHold.inWindow {s : State} (h : s.LinksHold) {rest : State → State}
    (feeds : ∀ t : State, t.windowIgnored = false → t.linkM.rx = .hunting → t.Feeds (rest t)) :
    (s.inWindow rest).LinksHold ∧ (s.inWindow rest).spi = .spent := by
  have wired := h.1.frameWindow
  have behind : s.frameWindow.Behind := by
    have same : s.frameWindow.linkE = s.linkE ∧ s.frameWindow.restartPending = s.restartPending := by
      unfold State.frameWindow
      split <;> exact ⟨rfl, rfl⟩
    obtain ⟨linkE, restart⟩ := same
    unfold State.Behind
    rw [linkE, restart]
    exact h.2
  rcases s.inWindow_cases rest with ⟨lost, e⟩ | ⟨taken, awake, e⟩ <;> rw [e]
  · have ignored : s.frameWindow.windowIgnored = true := by
      rcases lost with i | d
      · exact i
      · exact wired.opened.2 d s.frameWindow_open
    exact ⟨⟨wired.lost ignored .spent nofun, behind⟩, rfl⟩
  · obtain ⟨synced, heard⟩ := State.LinksHold.windowSync ⟨wired, behind⟩ awake taken
    dsimp only
    generalize s.frameWindow.windowSync = t at synced heard
    have spent : ((t.hunt .m).spendWindow .m).LinksHold := ⟨synced.1.spends heard, synced.2⟩
    split
    next ignored => exact ⟨⟨synced.1.lost ignored .spent nofun, synced.2⟩, rfl⟩
    · split
      · exact ⟨spent, rfl⟩
      · have fed := feeds ((t.hunt .m).spendWindow .m) rfl rfl
        exact ⟨spent.feeds fed heard, fed.spi⟩

/-! ### Frames -/

theorem State.abandon_feeds (s : State) (l : Link) (hunting : (s.link l).rx = .hunting) :
    s.Feeds (s.abandon l) := by
  cases l with
  | m => exact ⟨⟨hunting.symm, rfl, id, id⟩, .refl _, rfl, rfl, rfl, fun _ h => h, .inl rfl⟩
  | e => exact ⟨.refl _, ⟨hunting.symm, rfl, id, id⟩, rfl, rfl, rfl, fun _ h => h, .inl rfl⟩

/-- The receive assembly of Link E is no part of the bookkeeping. -/
theorem State.LinksHold.assembly {s : State} (h : s.LinksHold) (awake : s.deaf = false) (rx : RxState) :
    (s.onLink .e fun x => { x with rx := rx }).LinksHold :=
  ⟨{ h.1 with fresh := fun d => absurd (awake.symm.trans d) nofun }, h.2⟩

/-- A frame of Link E that is held, or discarded (R178). -/
theorem State.LinksHold.holdFrame {s : State} (h : s.LinksHold) (awake : s.deaf = false)
    (full : s.freeE = false) (f : Frame) : (s.holdFrame f).LinksHold := by
  unfold State.holdFrame
  split
  next room =>
    refine ⟨{ h.1 with
      heldE := ?_
      fresh := fun d => absurd (awake.symm.trans d) nofun }, ?_⟩
    · simp only [State.onLink, List.length_append, List.length_singleton]
      omega
    · right
      have waits := h.2
      simp only [State.Behind, State.freeE, Bool.and_eq_false_iff, Bool.not_eq_false',
        List.isEmpty_eq_false_iff, Option.isNone_eq_false_iff] at waits full
      rcases full with (o | k) | r
      · exact .inl o
      · exact waits.resolve_left k
      · exact .inr r
  · exact h.feeds (s.linkError_feeds .e) awake

theorem State.LinksHold.abandonE {s : State} (h : s.LinksHold) (awake : s.deaf = false) :
    (s.abandon .e).LinksHold :=
  (h.assembly awake .hunting).feeds (State.linkError_feeds _ .e) awake

/-- The arrival of a frame (R171, R174, R177, R178). -/
theorem State.LinksHold.arrive {s : State} (h : s.LinksHold) (l : Link) {take : State → State}
    (feeds : ∀ t : State, (l = .m → t.windowIgnored = false) → t.Feeds (take t)) (f : Frame) :
    (s.arrive l take f).LinksHold := by
  cases l with
  | m =>
    refine (h.inWindow (rest := fun t => if lenOk (frameLen f) then take t else t.abandon .m)
      fun t taken hunting => ?_).1
    split
    · exact feeds t fun _ => taken
    · exact t.abandon_feeds .m hunting
  | e =>
    simp only [State.arrive, State.arriveE]
    split
    · exact h
    next heard =>
      have awake := State.not_deaf heard
      have hunts := h.assembly awake .hunting
      split
      · split
        · exact hunts.feeds (feeds _ nofun) awake
        next full => exact hunts.holdFrame awake (Bool.not_eq_true _ ▸ full) f
      · exact h.abandonE awake

/-! ### Replies that leave -/

theorem State.Wired.emptied {s : State} (h : s.Wired) (awake : s.deaf = false) :
    (s.onLink .e LinkState.emptyOrdinary).Wired :=
  { h with fresh := fun d => absurd (awake.symm.trans d) nofun }

/-- Held frames are taken until one is answered, or none is left (R171). -/
theorem drainHeld_linksHold (n : Nat) : ∀ {s : State}, s.Wired → s.deaf = false →
    s.linkE.held.length ≤ n → (drainHeld n s).LinksHold := by
  induction n with
  | zero =>
    intro s h _ none
    exact ⟨h, .inl (List.length_eq_zero_iff.1 (Nat.le_zero.1 none))⟩
  | succ n ih =>
    intro s h awake room
    unfold drainHeld
    split
    next waits => exact ⟨h, .inr (by simpa using waits)⟩
    · split
      next none => exact ⟨h, .inl none⟩
      next f rest held =>
        rw [held, List.length_cons] at room
        have shorter : (s.onLink .e fun x => { x with held := rest }).Wired :=
          { h with
            heldE := by
              have two := h.heldE
              rw [held, List.length_cons] at two
              exact (Nat.le_succ _).trans two
            fresh := fun d => absurd (awake.symm.trans d) nofun }
        have fed := (takeFrame_feeds (s := s.onLink .e fun x => { x with held := rest }) (l := .e)
          nofun f).trans (State.commit_feeds _)
        refine ih (fed.wired shorter awake) (fed.deaf.trans awake) ?_
        rw [fed.linkE.held]
        exact Nat.le_of_succ_le_succ room

theorem State.LinksHold.replyLeaves {s : State} (h : s.LinksHold) (l : Link) :
    (s.replyLeaves l).LinksHold := by
  unfold State.replyLeaves
  split
  · exact h
  next free =>
    rw [Bool.or_eq_true, not_or] at free
    have awake := State.not_deaf free.1
    cases l with
    | m =>
      have idle : s.assembling = false := by simpa using free.2
      have hunting := h.1.not_assembling idle
      have spent : (s.spendWindow .m).LinksHold :=
        ⟨{ h.1 with
          assembles := ⟨fun ne => absurd hunting ne, nofun⟩
          opened := ⟨nofun, fun d => absurd (awake.symm.trans d) nofun⟩
          ignored := nofun }, h.2⟩
      split
      · exact h
      · simp only [State.ordinaryLeft]
        split
        · exact State.warmReset_wired _ _
        next none =>
          have none : s.restartPending = false := by simpa using none
          exact ⟨{ spent.1 with
            restart := fun p => absurd (none.symm.trans p) nofun
            fresh := fun d => absurd (awake.symm.trans d) nofun
            ignored := nofun }, spent.2⟩
      · exact ⟨{ spent.1 with
          waitM := .inr rfl
          fresh := fun d => absurd (awake.symm.trans d) nofun
          ignored := nofun }, spent.2⟩
    | e =>
      split
      · exact h
      · exact drainHeld_linksHold _ (h.1.emptied awake) awake le_rfl
      · exact ⟨{ h.1 with
          waitE := .inr rfl
          fresh := fun d => absurd (awake.symm.trans d) nofun }, h.2⟩

/-! ### Frames that go wrong, and an empty queue -/

theorem State.LinksHold.frameAbandoned {s : State} (h : s.LinksHold) (l : Link) (cause : AbandonCause) :
    (s.frameAbandoned l cause).LinksHold := by
  unfold State.frameAbandoned
  split
  · exact h
  · cases l with
    | e =>
      dsimp only
      split
      next assembling => exact h.abandonE ((s.assemblingE_iff).1 assembling).2
      · exact h
    | m =>
      obtain ⟨ended, spi⟩ := h.inWindow (rest := fun t => t.abandon .m)
        fun t _ hunting => t.abandon_feeds .m hunting
      dsimp only
      split
      · exact ⟨ended.1.windowRises (ended.1.hunting (.inl (by rw [spi]; exact nofun))), ended.2⟩
      · exact ended

theorem State.LinksHold.syncWindow {s : State} (h : s.LinksHold) (hunting : s.linkM.rx = .hunting) :
    s.syncWindow.LinksHold ∧ s.syncWindow.spi ≠ .shut ∧ s.syncWindow.linkM.rx = .hunting := by
  unfold State.syncWindow
  split
  next begun => exact ⟨h, by rw [begun]; exact nofun, hunting⟩
  · exact ⟨⟨h.1.windowFalls hunting, h.2⟩, nofun, hunting⟩

theorem State.LinksHold.windowBegins {s : State} (h : s.LinksHold) : s.windowBegins.LinksHold := by
  rcases s.windowBegins_cases with ⟨-, e⟩ | ⟨free, lost, e⟩ | ⟨free, taken, awake, e⟩ <;> rw [e]
  · exact h
  · obtain ⟨begun, opened, -⟩ := h.syncWindow (h.1.not_assembling free)
    have ignored : s.syncWindow.windowIgnored = true := by
      rcases lost with i | d
      · exact i
      · exact begun.1.opened.2 d opened
    exact ⟨{ begun.1.lost ignored .request nofun with
      assembles := ⟨fun ne => absurd (begun.1.ignored ignored).1 ne, fun ⟨_, taken⟩ => nomatch taken⟩
      opened := ⟨fun _ => nofun, fun _ _ => rfl⟩
      ignored := fun _ => begun.1.ignored ignored }, begun.2⟩
  · obtain ⟨begun, -, -⟩ := h.syncWindow (h.1.not_assembling free)
    exact ⟨begun.1.sync awake taken, begun.2.sync⟩

theorem State.LinksHold.receive {s : State} (h : s.LinksHold) : s.receive.LinksHold := by
  rcases s.receive_cases with e | ⟨-, awake, -, e⟩ <;> rw [e]
  · exact h
  · exact h.assembly awake _

theorem State.LinksHold.idle {s : State} (h : s.LinksHold) : s.idle.LinksHold := by
  have received : ({ s.receive with freeCount := s.freeCount + 1 } : State).LinksHold :=
    ⟨{ h.receive.1 with }, h.receive.2⟩
  have same : s.receive.linkM = s.linkM := by
    rcases s.receive_cases with e | ⟨-, -, -, e⟩ <;> rw [e]
  rcases s.idle_cases with e | ⟨shut, e⟩ | ⟨-, free, e⟩ <;> rw [e]
  · exact ⟨{ received.1 with }, received.2⟩
  · have hunting : s.receive.linkM.rx = .hunting := by
      rw [same]
      exact h.1.hunting (.inl (by rw [shut]; exact nofun))
    have falls := received.1.windowFalls hunting
    exact ⟨{ falls with }, received.2⟩
  · have hunting : s.receive.linkM.rx = .hunting := by
      rw [same]
      exact h.1.not_assembling free
    have rises := received.1.windowRises hunting
    exact ⟨{ rises with }, received.2⟩

end Sys2Proof.Machine
end

section
/-! SUPPORT. The bookkeeping of the whole part kept by every command and every step. -/

namespace Sys2Proof.Machine

/-! ### Events beside the links -/

theorem State.LinksHold.quiet {s t : State} (h : s.LinksHold) (q : s.Quiet t)
    (asleep : s.deaf = true → t = s) : t.LinksHold := by
  cases deaf : s.deaf with
  | false => exact h.feeds q.feeds deaf
  | true => rw [asleep deaf]; exact h

/-- The end of a burn posts flags or resets the part (R92, R148). -/
theorem State.finishBurn_cases (s : State) (took : Bool) (strays : List Nat) :
    s.Quiet (s.finishBurn took strays) ∨
      ∃ (u : State) (cause : ResetCause), s.Quiet u ∧ s.finishBurn took strays = u.warmReset cause := by
  unfold State.finishBurn
  split
  · exact .inl (.refl s)
  next op _ =>
    set t : State := { s with fuses := arrayAfterBurn s.fuses op took strays } with ht
    have idle : s.Quiet { t with fuseOp := none } := ⟨.refl _, .refl _, rfl, rfl, rfl, rfl, rfl, rfl⟩
    have freed : s.Quiet ({ t with fuseOp := none } : State).endReservation :=
      ⟨.refl _, .refl _, rfl, rfl, rfl, rfl, rfl, rfl⟩
    have failed : s.Quiet ((({ t with fuseOp := none } : State).recordFault
        (t.fuseFaultRecord op)).post .fuseDone) :=
      (idle.trans (State.recordFault_quiet _ _)).trans (State.post_quiet _ _)
    have released : s.Quiet ((({ t with fuseOp := none } : State).recordFault
        (t.fuseFaultRecord op)).post .fuseDone).endReservation := { failed with }
    dsimp only
    split
    · split
      · exact .inl ⟨.refl _, .refl _, rfl, rfl, rfl, rfl, rfl, rfl⟩
      · unfold State.endOperation
        dsimp only
        split
        · exact .inl (idle.trans (State.post_quiet _ _))
        · exact .inl ((freed.trans (State.rejectBound_quiet _ _)).trans (State.post_quiet _ _))
        · exact .inl (idle.trans (State.post_quiet _ _))
        · exact .inr ⟨_, _, idle, rfl⟩
    · unfold State.failOperation
      dsimp only
      split
      · exact .inl failed
      · split
        · exact .inl (released.trans (State.rejectBound_quiet _ _))
        · exact .inl released
      · exact .inl failed
      · split
        · exact .inr ⟨_, _, failed, rfl⟩
        · exact .inl failed

/-- The bookkeeping between two events, in its two parts. -/
def State.WellKept (s : State) : Prop := s.BodySound ∧ s.LinksHold

theorem State.Sound.wellKept {s : State} (h : s.Sound) : s.WellKept :=
  ⟨h.bodySound, h.links.wired, h.links.behind⟩

theorem State.WellKept.sound {s : State} (h : s.WellKept) : s.Sound :=
  h.1.sound (h.2.1.linksSound h.2.2 h.1.booked.held)

/-- No unit of the part has work that could end. -/
structure State.Asleep (s : State) : Prop where
  chunk       : s.finishChunk = s
  manifestJob : s.endManifestJob = s
  revokeJob   : s.endRevokeJob = s
  burn        : ∀ took strays, s.finishBurn took strays = s
  selfTest    : s.endSelfTest = s
  due         : s.window.tickDue = false

/-- A part that is held has no unit at work (R149, R151). -/
theorem State.BodySound.asleep {s : State} (h : s.BodySound) (deaf : s.deaf = true) : s.Asleep := by
  obtain ⟨mode, untested⟩ := h.booked.held deaf
  obtain ⟨-, -, -, core, -, active, fuseOp, -⟩ := h.booked.startup mode
  refine ⟨?_, ?_, ?_, fun took strays => ?_, ?_, ?_⟩
  · rw [State.finishChunk, core]
  · rw [State.endManifestJob, active]
  · rw [State.endRevokeJob, active]
  · rw [State.finishBurn, fuseOp]
  · rw [State.endSelfTest, untested]
    rfl
  · rw [Window.tickDue, h.stopped mode]
    rfl

theorem State.tick_still {s : State} (h : s.window.tickDue = false) : s.tick = s := by
  rcases s.tick_cases with ⟨-, e⟩ | ⟨due, -⟩ | ⟨due, -⟩
  · exact e
  all_goals
    rw [h] at due
    cases due

theorem State.WellKept.expiryTick {s : State} (h : s.WellKept) : s.expiryTick.LinksHold := by
  obtain ⟨body, links⟩ := h
  rcases s.expiryTick_cases with ⟨-, e⟩ | ⟨due, zero, e⟩ <;> rw [e]
  · exact links
  · refine links.quiet (s.expire_wanes.quiet s.expire_sameUnits) fun deaf => ?_
    rw [(body.asleep deaf).due] at due
    cases due

theorem State.WellKept.clockRises {s : State} (h : s.WellKept) : s.clockRises.LinksHold := by
  obtain ⟨body, links⟩ := h
  have rises (t : State) (k : t.LinksHold) : State.LinksHold
      { t with bootClock := t.bootClock + 1,
               window := { t.window with toTick := t.window.toTick.map fun n => n - 1 } } :=
    ⟨{ k.1 with }, k.2⟩
  simp only [State.clockRises]
  split
  · exact links
  · split
    · refine rises _ (State.LinksHold.commit (links.quiet s.tick_quiet fun deaf => ?_))
      exact State.tick_still (body.asleep deaf).due
    · exact rises s links

theorem State.LinksHold.coldReset (s : State) (cause : ColdCause) : (s.coldReset cause).LinksHold :=
  State.cold_wired _

theorem State.WellKept.resetFalls {s : State} (h : s.WellKept) : s.resetFalls.LinksHold := by
  obtain ⟨-, wired, behind⟩ := h
  unfold State.resetFalls
  split
  · exact ⟨wired, behind⟩
  · split
    next supply =>
      have deaf : s.deaf = true := State.deaf_of_supplyLow supply
      exact ⟨{ wired with
        fresh := fun _ => wired.fresh deaf
        opened := ⟨wired.opened.1, fun _ => wired.opened.2 deaf⟩ }, behind⟩
    · exact State.warmReset_wired _ _

theorem State.WellKept.resetRises {s : State} (h : s.WellKept) : s.resetRises.LinksHold := by
  obtain ⟨-, wired, behind⟩ := h
  unfold State.resetRises
  split
  next low =>
    have deaf : s.deaf = true := State.deaf_of_resetNLow low
    exact ⟨{ wired with
      fresh := fun _ => wired.fresh deaf
      opened := ⟨wired.opened.1, fun _ => wired.opened.2 deaf⟩ }, behind⟩
  · exact ⟨wired, behind⟩

theorem State.LinksHold.supplyRecovers {s : State} (h : s.LinksHold) : s.supplyRecovers.LinksHold := by
  unfold State.supplyRecovers
  split
  · exact State.LinksHold.coldReset _ _
  · exact h

theorem State.LinksHold.gapTimeout {s : State} (h : s.LinksHold) : s.gapTimeout.LinksHold := by
  unfold State.gapTimeout
  split
  next assembling => exact h.abandonE (s.assemblingE_iff.1 assembling).2
  · exact h

theorem State.LinksHold.stopBitLow {s : State} (h : s.LinksHold) : s.stopBitLow.LinksHold := by
  unfold State.stopBitLow
  split
  · exact h
  next heard =>
    rw [Bool.or_eq_true, not_or] at heard
    exact h.feeds (s.linkError_feeds .e) (State.not_deaf heard.1)

theorem State.WellKept.finishBurn {s : State} (h : s.WellKept) (took : Bool) (strays : List Nat) :
    (s.finishBurn took strays).LinksHold := by
  rcases s.finishBurn_cases took strays with q | ⟨u, cause, -, e⟩
  · exact h.2.quiet q fun deaf => (h.1.asleep deaf).burn took strays
  · rw [e]
    exact State.warmReset_wired u cause

/-! ### Every command -/

theorem exec_linksHold (c : Instr) {s : State} (h : s.WellKept) :
    ∃ u : State, exec c s = .next u.commit ∧ u.LinksHold := by
  have requested (k : Kind) (l : Link) (q : Request) :
      ∃ u : State, exec (requestCommand l k q) s = .next u.commit ∧ u.LinksHold :=
    ⟨_, exec_requestCommand l k q s, h.2.arrive l (fun _ taken => takeRequest_feeds taken k _) _⟩
  have framed (l : Link) (f : Frame) : (s.arrive l (takeFrame l f) f).LinksHold :=
    h.2.arrive l (fun _ taken => takeFrame_feeds taken f) f
  cases c with
  | identify l q => exact requested .identify l q
  | status l q => exact requested .status l q
  | eventMask l q => exact requested .eventMask l q
  | eventClear l q => exact requested .eventClear l q
  | wait l q => exact requested .wait l q
  | slotOpen l q => exact requested .slotOpen l q
  | manData l q => exact requested .manData l q
  | manClose l q => exact requested .manClose l q
  | segOpen l q => exact requested .segOpen l q
  | segData l q => exact requested .segData l q
  | segClose l q => exact requested .segClose l q
  | slotQuery l q => exact requested .slotQuery l q
  | slotDrop l q => exact requested .slotDrop l q
  | classDecline l q => exact requested .classDecline l q
  | windowExtend l q => exact requested .windowExtend l q
  | floorAdvance l q => exact requested .floorAdvance l q
  | keyQuery l q => exact requested .keyQuery l q
  | keyRevoke l q => exact requested .keyRevoke l q
  | keyEnroll l q => exact requested .keyEnroll l q
  | policySet l q => exact requested .policySet l q
  | policyGet l q => exact requested .policyGet l q
  | provisionClose l q => exact requested .provisionClose l q
  | faultRead l q => exact requested .faultRead l q
  | restart l q => exact requested .restart l q
  | chunkDigested => exact ⟨_, rfl, h.2.quiet s.finishChunk_quiet fun d => (h.1.asleep d).chunk⟩
  | manifestJobEnd =>
    exact ⟨_, rfl, h.2.quiet s.endManifestJob_quiet fun d => (h.1.asleep d).manifestJob⟩
  | revokeJobEnd => exact ⟨_, rfl, h.2.quiet s.endRevokeJob_quiet fun d => (h.1.asleep d).revokeJob⟩
  | fuseBurnComplete took strays => exact ⟨_, rfl, h.finishBurn took strays⟩
  | selftestComplete =>
    exact ⟨_, rfl, h.2.quiet s.endSelfTest_quiet fun d => (h.1.asleep d).selfTest⟩
  | bootWindowTick =>
    exact ⟨_, rfl, h.2.quiet s.tick_quiet fun d => State.tick_still (h.1.asleep d).due⟩
  | bootWindowExpiry => exact ⟨_, rfl, h.expiryTick⟩
  | coldReset cause => exact ⟨_, rfl, .coldReset s cause⟩
  | resetNFall => exact ⟨_, rfl, h.resetFalls⟩
  | resetNRise => exact ⟨_, rfl, h.resetRises⟩
  | frameHeld f => exact ⟨_, rfl, framed .e f⟩
  | frameAbandoned l cause => exact ⟨_, rfl, h.2.frameAbandoned l cause⟩
  | frameGapTimeout => exact ⟨_, rfl, h.2.gapTimeout⟩
  | replyLeft l => exact ⟨_, rfl, h.2.replyLeaves l⟩
  | replyRemovedUnread => exact ⟨_, rfl, h.2.windowBegins⟩
  | supplyRecovered => exact ⟨_, rfl, h.2.supplyRecovers⟩
  | stopBitLowWhileHunting => exact ⟨_, rfl, h.2.stopBitLow⟩
  | badKindFrame l f => exact ⟨_, rfl, framed l f⟩
  | bootClockMicrosecond => exact ⟨_, rfl, h.clockRises⟩

/-- Every step keeps the bookkeeping of the links. -/
theorem step_linksHold {s t : State} (h : s.WellKept) (taken : step s = .next t) : t.LinksHold := by
  unfold step at taken
  split at taken
  · cases taken
    exact h.2.idle
  next c rest _ =>
    have dequeued : ({ s with pending := rest } : State).WellKept :=
      ⟨⟨{ h.1.booked with
          tables := h.1.booked.tables.same rfl rfl rfl
          work := h.1.booked.work.same rfl rfl rfl rfl rfl }, h.1.undecided, h.1.core, h.1.unit⟩,
        { h.2.1 with }, h.2.2⟩
    obtain ⟨u, e, links⟩ := exec_linksHold c dequeued
    rw [e] at taken
    cases taken
    exact links.commit

end Sys2Proof.Machine

namespace Sys2Proof
open Machine

/-- Settles O57: the bookkeeping beside the links is kept by every move that a step can be made of, and that
of the links by every window, frame, reply and reset. -/
theorem soundnessKept : Obligations.SoundnessKept := by
  intro s t sound taken
  obtain ⟨rest, moves⟩ := step_moves taken
  have dequeued : ({ s with pending := rest } : State).BodySound := by
    obtain ⟨booked, undecided, core, unit⟩ := sound.bodySound
    exact ⟨{ booked with
      tables := booked.tables.same rfl rfl rfl
      work := booked.work.same rfl rfl rfl rfl rfl }, undecided, core, unit⟩
  exact State.WellKept.sound ⟨moves.bodySound dequeued, step_linksHold sound.wellKept taken⟩

end Sys2Proof
end

section
/-! SUPPORT. The step, the queue and the pins, the reset values and fault capture (R116, R149, R158, R164). -/

namespace Sys2Proof.Machine

/-- Every event keeps the queue. -/
theorem State.Event.pending {s t : State} (event : s.Event t) : t.pending = s.pending := by
  cases event with
  | serves served => exact served.quiet.pending
  | chunk => exact s.finishChunk_quiet.pending
  | manifestJob => exact s.endManifestJob_quiet.pending
  | revokeJob => exact s.endRevokeJob_quiet.pending
  | burn took strays =>
    rcases s.finishBurn_cases took strays with q | ⟨u, cause, q, e⟩
    · exact q.pending
    · rw [e]; exact q.pending
  | selfTest => exact s.endSelfTest_quiet.pending
  | ticks => exact s.tick_quiet.pending
  | clock => rfl
  | cold => rfl
  | warm => rfl
  | falls => rfl
  | rises => rfl

theorem State.Moves.pending {s t : State} (moves : s.Moves t) : t.pending = s.pending :=
  moves.keeps (P := fun u => u.pending = s.pending)
    (fun same e => by obtain ⟨_, _, _, _, _, _, _, rfl⟩ := same; exact e)
    (fun event e => event.pending.trans e) rfl

/-- SDO carries the reply in the entry that is offered (R173, R175). -/
theorem State.sdoBytes_eq (s : State) : s.sdoBytes = match s.spi with
    | .begun (some .ordinary) => s.linkM.ordinary.elim [] replyBytes
    | .begun (some .wait) => s.linkM.waitReply.elim [] replyBytes
    | _ => [] := by
  unfold State.sdoBytes
  rcases s.spi with _ | (_ | _ | _) | _ | _ <;> rfl

end Sys2Proof.Machine

namespace Sys2Proof
open Machine

/-- Settles O1: `step` takes the front of the queue. -/
theorem stepTakesFrontCommand : Obligations.StepTakesFrontCommand := fun _ _ _ => rfl

/-- Settles O2: every command answers the close of moves, which keep the queue, and the close drives the
pins. -/
theorem everyCommandEndsAtRest : Obligations.EveryCommandEndsAtRest := by
  intro c s
  obtain ⟨u, e, moves⟩ := exec_moves c s
  refine ⟨u.commit, e, u.commit_atRest, moves.pending, ?_⟩
  have pins : u.commit.pins = u.commit.drivenPins := u.commit_atRest.pins
  rw [pins]
  generalize u.commit = t
  have up : (!t.deaf) = !(t.resetNLow || t.supplyLow) := rfl
  have attn (a b : Half) : (a &&& b != 0) = decide (a &&& b ≠ 0) := by simp [bne, beq_eq_decide]
  refine ⟨fun i => ?lines, ?attnM, ?attnE, ?txd, ?driven, ?sdo⟩
  case lines =>
    simp only [State.drivenPins, ← up, tabulate_fin]
    congr 1
  case attnM =>
    simp only [State.drivenPins, LinkState.attn, ← up]
    rw [attn]
  case attnE =>
    simp only [State.drivenPins, LinkState.attn, ← up]
    rw [attn]
  case txd =>
    simp only [State.drivenPins, ← up, Bool.not_not]
    cases t.linkE.sending <;> rfl
  case driven =>
    simp only [State.drivenPins, State.drivesSdo, ← up]
    cases t.windowIgnored <;> simp [bne, beq_eq_decide]
  case sdo =>
    simp only [State.drivenPins, t.sdoBytes_eq]
    cases t.drivesSdo
    · rfl
    · rcases t.spi with _ | (_ | _ | _) | _ | _ <;> rfl

/-- Settles O60: the reset state is the cold reset of itself, which keeps the bookkeeping, and no line of it is
RELEASED. -/
theorem resetValues : Obligations.ResetValues := by
  have cold : State.reset = State.reset.cold := rfl
  have sound : State.reset.Sound := by
    rw [cold]
    exact State.WellKept.sound ⟨State.cold_bodySound _, State.cold_wired _⟩
  have atRest : State.reset.AtRest := ⟨⟨nofun, rfl, rfl⟩, ⟨nofun, rfl, rfl⟩, rfl⟩
  refine ⟨rfl, rfl, rfl, rfl, rfl, rfl, rfl, rfl, fun i => tabulate_fin _ i, fun x => tabulate_fin _ x,
    rfl, rfl, rfl, rfl, rfl, rfl, rfl, fun c => tabulate_fin _ c, fun i => tabulate_fin _ i, rfl, rfl,
    rfl, fun n => tabulate_fin _ n, rfl, rfl, rfl, atRest, sound, ?_⟩
  rw [cold]
  exact State.cold_linesStand _

end Sys2Proof

namespace Sys2Proof.Machine

/-- The first-fault place that a record fills: the lowest of 1 to 3 that is empty (R158). -/
theorem firstEmpty_eq_some (v : Vector FaultRecord 4) {n : Fin 4} (first : n ≠ 0) :
    firstEmpty v = some n ↔
      v[n].code = .empty ∧ ∀ m : Fin 4, m ≠ 0 → m < n → v[m].code ≠ .empty := by
  unfold firstEmpty
  fin_cases n
  · exact absurd rfl first
  all_goals
    simp only [Fin.forall_fin_succ]
    split_ifs <;> simp_all

end Sys2Proof.Machine

namespace Sys2Proof
open Machine

/-- Settles O55: `storeFault_getElem` gives each place, and the post sets FAULT. -/
theorem faultCaptureStores : Obligations.FaultCaptureStores := by
  intro s r
  refine ⟨?_, fun n first => ?_, rfl, rfl⟩
  · exact (storeFault_getElem s.faults _ 0).trans (if_pos (.inl rfl))
  · refine (storeFault_getElem s.faults _ n).trans (if_congr ?_ rfl rfl)
    rw [firstEmpty_eq_some s.faults first]
    simp only [first, false_or]

end Sys2Proof
end

section
/-! SUPPORT. A good request on a ready link, by what its handler serves; how a byte names an index, and which
entry of a table is the lowest (R170, R171). -/

namespace Sys2Proof.Machine

/-- The part as a handler finds it: the assembly of the link HUNTING, and the window spent (R171, R174). -/
def State.taking (s : State) (l : Link) : State := (s.hunt l).spendWindow l

theorem State.taking_link (s : State) (l : Link) : (s.taking l).link l = { s.link l with rx := .hunting } := by
  cases l <;> rfl

section
variable (s : State) (l : Link)

@[simp] theorem State.taking_mode : (s.taking l).mode = s.mode := by cases l <;> rfl
@[simp] theorem State.taking_slots : (s.taking l).slots = s.slots := by cases l <;> rfl
@[simp] theorem State.taking_ctxs : (s.taking l).ctxs = s.ctxs := by cases l <;> rfl
@[simp] theorem State.taking_chunkQueue : (s.taking l).chunkQueue = s.chunkQueue := by cases l <;> rfl
@[simp] theorem State.taking_jobs : (s.taking l).jobs = s.jobs := by cases l <;> rfl
@[simp] theorem State.taking_core : (s.taking l).core = s.core := by cases l <;> rfl
@[simp] theorem State.taking_active : (s.taking l).active = s.active := by cases l <;> rfl
@[simp] theorem State.taking_classes : (s.taking l).classes = s.classes := by cases l <;> rfl
@[simp] theorem State.taking_window : (s.taking l).window = s.window := by cases l <;> rfl
@[simp] theorem State.taking_staging : (s.taking l).staging = s.staging := by cases l <;> rfl
@[simp] theorem State.taking_inForce : (s.taking l).inForce = s.inForce := by cases l <;> rfl
@[simp] theorem State.taking_fuses : (s.taking l).fuses = s.fuses := by cases l <;> rfl
@[simp] theorem State.taking_fuseOp : (s.taking l).fuseOp = s.fuseOp := by cases l <;> rfl
@[simp] theorem State.taking_reserved : (s.taking l).reserved = s.reserved := by cases l <;> rfl
@[simp] theorem State.taking_rom : (s.taking l).rom = s.rom := by cases l <;> rfl

end

/-- The pins of a part at rest whose links and lines stay are driven as they were. -/
theorem State.AtRest.same {s t : State} (h : s.AtRest) (linkM : t.linkM = s.linkM)
    (linkE : t.linkE = s.linkE) (pins : t.pins = s.pins)
    (driven : t.drivenPins = s.drivenPins) : t.AtRest :=
  ⟨by rw [linkM]; exact h.linkM, by rw [linkE]; exact h.linkE, by rw [pins, driven]; exact h.pins⟩

/-- A good request on a ready link, whose handler leaves the part as `t` is and answers, leaves `t` and the
reply (R170, R171). -/
theorem exec_served {s : State} (t : State) {l : Link} (rest : t.AtRest)
    (entry : (t.link l).ordinary = none) (ready : s.Ready l) {k : Kind} {tag : Byte}
    {payload : List Byte} {status : Status} {reply : List Byte} (fits : payload.length ≤ 1038)
    (size : payloadSizeOk k payload.length = true)
    (answers : ∀ f, f.payload = payload →
      handlerOf k l f (s.taking l) = serve (t.taking l) status reply) :
    exec (requestCommand l k (goodRequest k tag payload)) s =
      .next (t.replied l (replyOf k tag status reply)) := by
  rw [exec_requestCommand, State.request_ready ready k _ tag payload fits size]
  refine congrArg Host.Outcome.next ?_
  have served := answers (requestFrame k (goodRequest k tag payload)) rfl
  rw [State.taking] at served
  rw [served]
  exact State.answer_replied rest entry rfl _ _

/-- A good request on a ready link whose handler only answers. -/
theorem exec_replied {s : State} {l : Link} (rest : s.AtRest) (ready : s.Ready l) {k : Kind} {tag : Byte}
    {payload : List Byte} {status : Status} {reply : List Byte} (fits : payload.length ≤ 1038)
    (size : payloadSizeOk k payload.length = true)
    (answers : ∀ f, f.payload = payload →
      handlerOf k l f (s.taking l) = serve (s.taking l) status reply) :
    exec (requestCommand l k (goodRequest k tag payload)) s =
      .next (s.replied l (replyOf k tag status reply)) :=
  exec_served s rest ready.entry ready fits size answers

/-! ### Indices and tables -/

/-- A byte names the index that it was made of. -/
theorem index?_byteOf {n : Nat} (i : Fin n) (h : n ≤ 256) : index? n (byteOf i).toNat = some i := by
  rw [byteOf_toNat (i.isLt.trans_le h), index?_val]

theorem byteAt_zero_cons (b : Byte) (p : List Byte) : byteAt (b :: p) 0 = b := rfl

/-- The lowest entry of a table that passes a test. -/
theorem head?_indicesOf {n : Nat} {p : Fin n → Bool} {i : Fin n} (passes : p i = true)
    (first : ∀ j, j < i → p j = false) : (indicesOf p).head? = some i := by
  rw [indicesOf, List.head?_filter, List.find?_eq_some_iff_getElem]
  refine ⟨passes, i, by simp, by simp, fun j below => ?_⟩
  rw [List.getElem_finRange, first _ below]
  rfl

theorem head?_indicesOf_none {n : Nat} {p : Fin n → Bool} (fails : ∀ j, p j = false) :
    (indicesOf p).head? = none := by
  rw [indicesOf, List.head?_filter, List.find?_eq_none]
  exact fun j _ => by rw [fails]; exact nofun

theorem State.freeSlot_eq_some {s : State} {i : Fin 12} (free : s.slots[i].state = .free)
    (first : ∀ j : Fin 12, j < i → s.slots[j].state ≠ .free) : s.freeSlot = some i :=
  head?_indicesOf (beq_iff_eq.2 free) fun j below => beq_eq_false_iff_ne.2 (first j below)

theorem State.freeSlot_eq_none {s : State} (full : ∀ j : Fin 12, s.slots[j].state ≠ .free) :
    s.freeSlot = none := head?_indicesOf_none fun j => beq_eq_false_iff_ne.2 (full j)

theorem State.idleCtx_eq_some {s : State} {x : Fin 4} (idle : s.ctxs[x] = none)
    (first : ∀ y : Fin 4, y < x → s.ctxs[y] ≠ none) : s.idleCtx = some x :=
  head?_indicesOf (Option.isNone_iff_eq_none.2 idle) fun y below =>
    Option.isNone_eq_false_iff.2 (Option.isSome_iff_ne_none.2 (first y below))

theorem State.idleCtx_eq_none {s : State} (full : ∀ y : Fin 4, s.ctxs[y] ≠ none) : s.idleCtx = none :=
  head?_indicesOf_none fun y => Option.isNone_eq_false_iff.2 (Option.isSome_iff_ne_none.2 (full y))

end Sys2Proof.Machine
end

section
/-! SUPPORT. SLOT_OPEN, MAN_DATA and RESTART (R6, R7, R108, R152). -/

namespace Sys2Proof.Machine

/-! ### SLOT_OPEN -/

section
variable {s : State} {l : Link} {f : Frame}

theorem takeSlotOpen_wrongMode (mode : s.mode ≠ .verify) :
    takeSlotOpen l f s = refuse .slotOpen s .wrongMode := if_pos mode

theorem takeSlotOpen_badIndex (mode : s.mode = .verify) (above : 7 < (byteAt f.payload 0).toNat) :
    takeSlotOpen l f s = refuse .slotOpen s .badIndex := by
  have absent : index? 8 (byteAt f.payload 0).toNat = none := index?_eq_none above
  rw [takeSlotOpen, if_neg (not_not_intro mode), absent]

variable {c : Fin 8} (mode : s.mode = .verify) (named : f.payload = [byteOf c])
include mode named

theorem takeSlotOpen_class : takeSlotOpen l f s =
    match classRefusal s.classes[c] l with
    | some status => refuse .slotOpen s status
    | none => match s.freeSlot with
      | none => refuse .slotOpen s .noSlot
      | some i => serve ((s.setSlot i (s.slots[i].opened c l)).setClass c
          { s.classes[c] with attempts := s.classes[c].attempts + 1 }) .ok
          [byteOf i, (s.slots[i].opened c l).gen] := by
  have index : index? 8 (byteAt f.payload 0).toNat = some c := by
    rw [named, byteAt_zero_cons, index?_byteOf c (by decide)]
  rw [takeSlotOpen, if_neg (not_not_intro mode), index] <;> rfl

end

theorem classRefusal_pending {x : ClassRec} {l : Link} (pending : x.state = .pending) :
    classRefusal x l =
      if x.linkMask.getLsbD (linkCode l).toNat = false then some .linkDenied
      else if x.attempts = 3 then some .classExhausted else none := by
  rw [classRefusal, pending]
  simp

theorem slotOpen_refused {s : State} {l : Link} {tag b : Byte} {status : Status} (rest : s.AtRest)
    (ready : s.Ready l)
    (refused : ∀ f t, f.payload = [b] → t.mode = s.mode → t.classes = s.classes → t.slots = s.slots →
      takeSlotOpen l f t = refuse .slotOpen t status) :
    exec (.slotOpen l (goodRequest .slotOpen tag [b])) s =
      .next (s.replied l (replyOf .slotOpen tag status [0, 0])) :=
  exec_replied (k := .slotOpen) rest ready (Nat.le_add_left 1 _) rfl fun f payload =>
    refused f _ payload (by simp) (by simp) (by simp)

end Sys2Proof.Machine

namespace Sys2Proof
open Machine

/-- Settles O10: the class passes its checks, and the lowest FREE slot is the one named. -/
theorem slotOpenClaims : Obligations.SlotOpenClaims := by
  intro s l tag c i rest ready mode pending mask attempts free first
  refine exec_served (k := .slotOpen) (payload := [byteOf c])
    ((s.setSlot i (s.slots[i].opened c l)).setClass c
      { s.classes[c] with attempts := s.classes[c].attempts + 1 }) (rest.same rfl rfl rfl rfl)
    (by cases l <;> exact ready.entry) ready (Nat.le_add_left 1 _) rfl fun f payload => ?_
  have mask : s.classes[c].linkMask.getLsbD (linkCode l).toNat = true := by cases l <;> exact mask
  have passes : classRefusal s.classes[c] l = none := by
    rw [classRefusal_pending pending, if_neg (by rw [mask]; exact nofun), if_neg (by omega)]
  have lowest : (s.taking l).freeSlot = some i := by
    simpa [State.freeSlot] using State.freeSlot_eq_some free first
  refine (takeSlotOpen_class (by simpa using mode) payload).trans ?_
  simp only [State.taking_classes, passes, lowest, State.taking_slots]
  cases l <;> rfl

/-- Settles O11: each clause fails one check of Table 7-3 and passes those before it. -/
theorem slotOpenRefuses : Obligations.SlotOpenRefuses := by
  rintro s l tag b status rest ready (⟨mode, rfl⟩ | ⟨mode, above, rfl⟩ | ⟨mode, c, rfl, refused⟩)
  · exact slotOpen_refused rest ready fun f t _ m _ _ => takeSlotOpen_wrongMode (m ▸ mode)
  · exact slotOpen_refused rest ready fun f t payload m _ _ =>
      takeSlotOpen_badIndex (m.trans mode) (by rw [payload]; exact above)
  · have byClass (denied : classRefusal s.classes[c] l = some status) :
        exec (.slotOpen l (goodRequest .slotOpen tag [byteOf c])) s =
          .next (s.replied l (replyOf .slotOpen tag status [0, 0])) :=
      slotOpen_refused rest ready fun f t payload m classes _ => by
        rw [takeSlotOpen_class (m.trans mode) payload, classes, denied]
    rcases refused with ⟨state, rfl⟩ | ⟨state, rfl⟩ | ⟨state, rfl⟩ | ⟨pending, refused⟩
    · exact byClass (by rw [classRefusal, state])
    · exact byClass (by rw [classRefusal, state])
    · exact byClass (by rcases state with e | e <;> rw [classRefusal, e])
    · have bit : s.classes[c].linkMask.getLsbD (linkCode l).toNat =
        s.classes[c].linkMask.getLsbD (match l with | .m => 0 | .e => 1) := by cases l <;> rfl
      rcases refused with ⟨mask, rfl⟩ | ⟨mask, ⟨attempts, rfl⟩ | ⟨attempts, full, rfl⟩⟩
      · exact byClass (by rw [classRefusal_pending pending, if_pos (bit.trans mask)])
      · exact byClass (by
          rw [classRefusal_pending pending, if_neg (by rw [bit.trans mask]; exact nofun), if_pos attempts])
      · refine slotOpen_refused rest ready fun f t payload m classes slots => ?_
        have passes : classRefusal t.classes[c] l = none := by
          rw [classes, classRefusal_pending pending, if_neg (by rw [bit.trans mask]; exact nofun),
            if_neg attempts]
        have none : t.freeSlot = none := State.freeSlot_eq_none (by rw [slots]; exact full)
        rw [takeSlotOpen_class (m.trans mode) payload, passes, none]

end Sys2Proof
end

section
/-! SUPPORT. RESTART, WAIT, MAN_DATA and WINDOW_EXTEND (R7, R131, R132, R152, R165). -/

namespace Sys2Proof.Machine

/-! ### The close of an event on one link -/

/-- An event that moved one link of a part at rest closes on that link alone. -/
theorem State.commit_onLink {s : State} (rest : s.AtRest) (l : Link) (f : LinkState → LinkState) :
    ((s.spendWindow l).onLink l f).commit =
      ((s.spendWindow l).onLink l fun x => (f x).close).drive := by
  cases l
  · simp only [State.commit, State.onLink, State.spendWindow, LinkState.close_of_atRest rest.linkE]
  · simp only [State.commit, State.onLink, State.spendWindow, LinkState.close_of_atRest rest.linkM]

theorem State.AtRest.link {s : State} (rest : s.AtRest) (l : Link) : (s.link l).AtRest := by
  cases l
  · exact rest.linkM
  · exact rest.linkE

/-- One link changed depends on what that link was. -/
theorem State.onLink_congr (s : State) (l : Link) {f g : LinkState → LinkState}
    (same : f (s.link l) = g (s.link l)) : s.onLink l f = s.onLink l g := by
  cases l
  · exact congrArg (fun x => { s with linkM := x }) same
  · exact congrArg (fun x => { s with linkE := x }) same

/-! ### WAIT -/

/-- A WAIT whose mask names no set flag is parked at once (R165). -/
theorem LinkState.close_parked {x : LinkState} (rest : x.AtRest) (w : ParkedWait)
    (unset : x.flags &&& w.mask = 0) :
    ({ x with rx := .hunting, parked := some w } : LinkState).close =
      { x with rx := .hunting, parked := some w } :=
  LinkState.close_of_atRest
    ⟨fun _ named => Option.some.inj named ▸ unset, rest.sending⟩

/-- A WAIT answered at once on a link that sends nothing is sent (R165, R171). -/
theorem LinkState.close_answered {x : LinkState} (rest : x.AtRest) (parked : x.parked = none)
    (ordinary : x.ordinary = none) (free : x.waitReply = none) (r : Reply) :
    ({ x with rx := .hunting, waitReply := some r } : LinkState).close =
      { x with rx := .hunting, sending := some .wait, waitReply := some r } := by
  have idle := rest.sending
  rcases x with ⟨rx, held, ord, wr, pk, sending, flags, mask⟩
  obtain rfl : pk = none := parked
  obtain rfl : ord = none := ordinary
  obtain rfl : wr = none := free
  rcases sending with _ | _ | _
  · rfl
  · exact absurd rfl idle
  · exact absurd rfl idle

section
variable {s : State} {l : Link} {f : Frame} {m : Half} (named : f.payload = leBytes 2 m.toNat)
include named

theorem takeWait_refused {status : Status}
    (refused : (m &&& 0x1FF = 0 ∧ status = .badIndex) ∨ (m &&& 0x1FF ≠ 0 ∧
      (s.link l).waitOutstanding = true ∧ status = .waitBusy)) :
    takeWait l f s = serve s status [0, 0] := by
  rw [takeWait, named, maskOperand_leBytes]
  rcases refused with ⟨none, rfl⟩ | ⟨some, busy, rfl⟩
  · rw [if_pos none]; rfl
  · simp only [if_neg some, busy, if_true]; rfl

theorem takeWait_taken (some : m &&& 0x1FF ≠ 0) (free : (s.link l).waitOutstanding = false) :
    takeWait l f s =
      (if (s.link l).flags &&& (m &&& 0x1FF) = 0 then
        s.onLink l fun x => { x with parked := Option.some { mask := m &&& 0x1FF, tag := f.tag } }
      else s.onLink l fun x =>
        { x with waitReply := Option.some (waitAnswer f.tag (s.link l).flags) }, none) := by
  rw [takeWait, named, maskOperand_leBytes]
  simp only [if_neg some, free, Bool.false_eq_true, if_false]
  split
  · rfl
  · cases l <;> rfl

end

/-- A handler that makes no ordinary reply leaves its change to the close (R171). -/
theorem exec_unanswered {s : State} {l : Link} (ready : s.Ready l) {k : Kind} {tag : Byte}
    {payload : List Byte} {t : State} (fits : payload.length ≤ 1038)
    (size : payloadSizeOk k payload.length = true)
    (answers : handlerOf k l (requestFrame k (goodRequest k tag payload)) (s.taking l) = (t, none)) :
    exec (requestCommand l k (goodRequest k tag payload)) s = .next t.commit := by
  rw [exec_requestCommand, State.request_ready ready k _ tag payload fits size]
  rw [State.taking] at answers
  rw [answers]
  rfl

end Sys2Proof.Machine

namespace Sys2Proof
open Machine

/-- Settles O9: on Link M the handler notes the RESTART, which no pin shows; on Link E it refuses. -/
theorem restartPends : Obligations.RestartPends := by
  intro s tag rest
  refine ⟨fun ready => ?_, fun ready => ?_⟩
  · exact exec_served (l := .m) (k := .restart) (payload := []) { s with restartPending := true }
      (rest.same rfl rfl rfl rfl) ready.entry ready (Nat.zero_le _) rfl fun _ _ => rfl
  · exact exec_replied (k := .restart) (payload := []) rest ready (Nat.zero_le _) rfl fun _ _ => rfl

/-- Settles O7: the handler's four answers, the last two of which the close parks or sends. -/
theorem waitTakes : Obligations.WaitTakes := by
  intro s l tag m rest ready
  have flags : ((s.taking l).link l).flags = (s.link l).flags := by rw [State.taking_link]
  have outstanding : ((s.taking l).link l).waitOutstanding = true ↔
      (s.link l).parked ≠ none ∨ (s.link l).waitReply ≠ none := by
    rw [State.taking_link, LinkState.waitOutstanding, Bool.or_eq_true, Option.isSome_iff_ne_none,
      Option.isSome_iff_ne_none]
  by_cases empty : m &&& 0x1FF = 0
  · rw [if_pos empty]
    exact exec_replied (k := .wait) rest ready (Nat.le_add_left 2 _) rfl fun _ payload =>
      takeWait_refused payload (.inl ⟨empty, rfl⟩)
  rw [if_neg empty]
  by_cases busy : (s.link l).parked ≠ none ∨ (s.link l).waitReply ≠ none
  · rw [if_pos busy]
    exact exec_replied (k := .wait) rest ready (Nat.le_add_left 2 _) rfl fun _ payload =>
      takeWait_refused payload (.inr ⟨empty, outstanding.2 busy, rfl⟩)
  rw [if_neg busy]
  have free : ((s.taking l).link l).waitOutstanding = false := by
    rw [← Bool.not_eq_true, outstanding]
    exact busy
  obtain ⟨parked, unanswered⟩ := not_or.1 busy
  have answers := takeWait_taken (f := requestFrame .wait (goodRequest .wait tag (leBytes 2 m.toNat)))
    rfl empty free
  refine (exec_unanswered (k := .wait) ready (Nat.le_add_left 2 _) rfl answers).trans
    (congrArg Host.Outcome.next ?_)
  rw [flags]
  split
  next unset =>
    calc ((s.taking l).onLink l fun x =>
          { x with parked := some { mask := m &&& 0x1FF, tag := tag } }).commit
      _ = ((s.spendWindow l).onLink l fun x =>
            { x with rx := .hunting, parked := some ⟨m &&& 0x1FF, tag⟩ }).commit := by cases l <;> rfl
      _ = _ := by
        rw [State.commit_onLink rest]
        refine congrArg State.drive (State.onLink_congr _ l ?_)
        rw [State.spendWindow_link]
        exact LinkState.close_parked (rest.link l) _ unset
  next set =>
    calc ((s.taking l).onLink l fun x =>
          { x with waitReply := some (waitAnswer tag (s.link l).flags) }).commit
      _ = ((s.spendWindow l).onLink l fun x =>
            { x with rx := .hunting, waitReply := some (waitAnswer tag (s.link l).flags) }).commit := by
          cases l <;> rfl
      _ = _ := by
        rw [State.commit_onLink rest]
        refine congrArg State.drive (State.onLink_congr _ l ?_)
        rw [State.spendWindow_link]
        exact LinkState.close_answered (rest.link l) (not_not.1 parked) ready.entry
          (not_not.1 unanswered) _

end Sys2Proof

namespace Sys2Proof.Machine

/-! ### MAN_DATA -/

theorem State.slotMode_iff (s : State) : s.slotMode = true ↔ s.mode = .verify ∨ s.mode = .settled := by
  rw [State.slotMode, Bool.or_eq_true, beq_iff_eq, beq_iff_eq]

/-- The owner check fails (R2). -/
theorem Slot.ownedBy_eq_false (x : Slot) (l : Link) :
    x.ownedBy l = false ↔ x.state ≠ .free ∧ x.owner ≠ some l := by
  rw [Slot.ownedBy, Bool.or_eq_false_iff, beq_eq_false_iff_ne, beq_eq_false_iff_ne]

/-- Two bytes of a payload behind an index spell the number they were made of. -/
theorem leNat_slice_one (b : Byte) {n : Nat} (small : n < 65536) (rest : List Byte) :
    leNat (slice (b :: leBytes 2 n ++ rest) 1 2) = n := by
  have at_one : slice (b :: leBytes 2 n ++ rest) 1 2 = leBytes 2 n := rfl
  rw [at_one, leNat_leBytes]
  omega

section
variable {s : State} (mode : s.mode = .verify ∨ s.mode = .settled) (l : Link) {f : Frame}
include mode

theorem takeManData_badIndex (above : 11 < (byteAt f.payload 0).toNat) :
    takeManData l f s = serve s .badIndex [0, 0] := by
  have absent : index? 12 (byteAt f.payload 0).toNat = none := index?_eq_none above
  simp only [takeManData, (s.slotMode_iff).2 mode, absent]
  rfl

theorem takeManData_slot {i : Fin 12} {offset : Nat} {data : List Byte} (small : offset < 65536)
    (payload : f.payload = byteOf i :: leBytes 2 offset ++ data) :
    takeManData l f s =
      if s.slots[i].ownedBy l = false then serve s .notOwner (leBytes 2 s.slots[i].buffer.length)
      else match manDataRefusal s.slots[i] offset data with
      | some status => serve s status (leBytes 2 s.slots[i].buffer.length)
      | none => serve (s.setSlot i { s.slots[i] with buffer := s.slots[i].buffer ++ data }) .ok
          (leBytes 2 (s.slots[i].buffer ++ data).length) := by
  have named : index? 12 (byteAt f.payload 0).toNat = some i := by
    rw [payload, List.cons_append, byteAt_zero_cons, index?_byteOf i (by decide)]
  have read : leNat (slice f.payload 1 2) = offset := by rw [payload, leNat_slice_one _ small]
  have rest : f.payload.drop 3 = data := by rw [payload]; rfl
  simp only [takeManData, (s.slotMode_iff).2 mode, named, read, rest, Bool.not_eq_true', Bool.not_true,
    Bool.false_eq_true, if_false] <;> rfl

end

end Sys2Proof.Machine

namespace Sys2Proof
open Machine

/-- Settles O12: the handler's checks are the statement's, in the same order. -/
theorem manDataAppends : Obligations.ManDataAppends := by
  intro s l tag offset data rest ready mode fits small
  have size (b : Byte) : (b :: leBytes 2 offset ++ data).length = 3 + data.length := by
    simp [leBytes]; omega
  have short (b : Byte) : (b :: leBytes 2 offset ++ data).length ≤ 1038 := by rw [size]; omega
  have ok (b : Byte) : payloadSizeOk .manData (b :: leBytes 2 offset ++ data).length = true := by
    rw [size]
    exact decide_eq_true (Nat.le_add_right 3 _)
  refine ⟨fun b above => ?_, fun i => ?_⟩
  · exact exec_replied (k := .manData) rest ready (short b) (ok b) fun f payload =>
      takeManData_badIndex (by simpa using mode) l (by rw [payload]; exact above)
  have answers (f : Frame) (payload : f.payload = byteOf i :: leBytes 2 offset ++ data) :=
    takeManData_slot (s := s.taking l) (by simpa using mode) l small payload
  simp only [State.taking_slots] at answers
  have refused (status : Status) (denied : ∀ f, f.payload = byteOf i :: leBytes 2 offset ++ data →
      takeManData l f (s.taking l) =
        serve (s.taking l) status (leBytes 2 s.slots[i].buffer.length)) :
      exec (.manData l (goodRequest .manData tag (byteOf i :: leBytes 2 offset ++ data))) s =
        .next (s.replied l (replyOf .manData tag status (leBytes 2 s.slots[i].buffer.length))) :=
    exec_replied (k := .manData) rest ready (short _) (ok _) denied
  dsimp only
  by_cases owner : s.slots[i].state ≠ .free ∧ s.slots[i].owner ≠ some l
  · rw [if_pos owner]
    exact refused _ fun f payload => by
      rw [answers f payload, if_pos ((Slot.ownedBy_eq_false _ l).2 owner)]
  rw [if_neg owner]
  have owned : ¬s.slots[i].ownedBy l = false := fun h => owner ((Slot.ownedBy_eq_false _ l).1 h)
  have byRefusal (status : Status) (denied : manDataRefusal s.slots[i] offset data = some status) :=
    refused status fun f payload => by rw [answers f payload, if_neg owned, denied]
  by_cases state : s.slots[i].state ≠ .loading
  · rw [if_pos state]
    exact byRefusal _ (if_pos state)
  rw [if_neg state]
  by_cases length : data.length = 0 ∨ 1024 < data.length
  · rw [if_pos length]
    exact byRefusal _ (by rw [manDataRefusal, if_neg state, if_pos (by omega)])
  rw [if_neg length]
  have sized : ¬(data.length < 1 ∨ 1024 < data.length) := by omega
  by_cases place : offset ≠ s.slots[i].buffer.length
  · rw [if_pos place]
    exact byRefusal _ (by rw [manDataRefusal, if_neg state, if_neg sized, if_pos place])
  rw [if_neg place]
  by_cases past : 8304 < offset + data.length
  · rw [if_pos past]
    exact byRefusal _ (by
      rw [manDataRefusal, if_neg state, if_neg sized, if_neg place, maxManifest, if_pos past])
  rw [if_neg past]
  have accepted : manDataRefusal s.slots[i] offset data = none := by
    rw [manDataRefusal, if_neg state, if_neg sized, if_neg place, maxManifest, if_neg past]
  have count : (s.slots[i].buffer ++ data).length = offset + data.length := by
    rw [List.length_append, not_not.1 place]
  refine exec_served (k := .manData)
    (s.setSlot i { s.slots[i] with buffer := s.slots[i].buffer ++ data }) (rest.same rfl rfl rfl rfl)
    (by cases l <;> exact ready.entry) ready (short _) (ok _) fun f payload => ?_
  refine (answers f payload).trans ?_
  rw [if_neg owned, accepted, ← count]
  cases l <;> rfl

end Sys2Proof
end

section
/-! SUPPORT. WINDOW_EXTEND, FLOOR_ADVANCE and the requests outside their modes (R96, R97, R131, R132, R143). -/

namespace Sys2Proof.Machine

/-- A good request on a ready link: the handler's change, the reply, and the close (R170, R171). -/
theorem exec_answers {s u : State} {l : Link} (ready : s.Ready l) {k : Kind} {tag : Byte}
    {payload : List Byte} {status : Status} {reply : List Byte} (fits : payload.length ≤ 1038)
    (size : payloadSizeOk k payload.length = true)
    (answers : ∀ f, f.payload = payload → handlerOf k l f (s.taking l) = serve u status reply) :
    exec (requestCommand l k (goodRequest k tag payload)) s =
      .next (u.putReply l (replyOf k tag status reply)).commit := by
  rw [exec_requestCommand, State.request_ready ready k _ tag payload fits size]
  have served := answers (requestFrame k (goodRequest k tag payload)) rfl
  rw [State.taking] at served
  rw [served]
  rfl

theorem LinkState.flagged_zero (x : LinkState) : x.flagged 0 = x.close := by
  have same : x.flags ||| 0 = x.flags := BitVec.or_zero
  rw [LinkState.flagged, same]

theorem State.flagged_zero (s : State) : s.flagged 0 = s.commit := by
  rw [State.flagged, LinkState.flagged_zero, LinkState.flagged_zero]
  rfl

/-- A count set closes with WINDOW_LOW where it is R div 4 (R130). -/
theorem State.setCount_commit (s : State) (w : Window) (count : Nat) :
    (s.setCount w count).commit =
      ({ s with window := { w with count := count, toTick := some (2 ^ w.prescale * 1000) } } :
        State).flagged (if count = w.reload / 4 then 0x010 else 0) := by
  have low : ({ w with count := count, toTick := some (tickInterval w.prescale) } : Window).atLow =
      decide (count = w.reload / 4) := beq_eq_decide _ _
  simp only [State.setCount, low, decide_eq_true_eq]
  split
  · rfl
  · rw [State.flagged_zero]
    rfl

end Sys2Proof.Machine

namespace Sys2Proof
open Machine

/-- Settles O22: in VERIFY the count is set to R, with one extension more used; the two refusals change
nothing. -/
theorem windowExtendReloads : Obligations.WindowExtendReloads := by
  intro s l tag rest ready
  refine ⟨fun mode => ?_, fun mode used => ?_, fun mode left => ?_⟩
  · refine exec_replied (k := .windowExtend) (payload := []) rest ready (Nat.zero_le _) rfl
      fun f _ => (if_pos (by simpa using mode)).trans ?_
    rw [State.taking_window]
    rfl
  · refine exec_replied (k := .windowExtend) (payload := []) rest ready (Nat.zero_le _) rfl
      fun f _ => (if_neg (by simpa using mode)).trans ((if_pos (by simpa using used)).trans ?_)
    rw [State.taking_window]
    rfl
  · have window : (s.taking l).extendWindow.window =
        { s.window with count := s.window.reload, extUsed := s.window.extUsed + 1,
                        toTick := some (tickInterval s.window.prescale) } := by
      obtain ⟨m, e, eq⟩ := (s.taking l).setCount_eq
        { (s.taking l).window with extUsed := (s.taking l).window.extUsed + 1 } (s.taking l).window.reload
      rw [State.extendWindow, eq, State.taking_window]
    have answers (f : Frame) : takeWindowExtend l f (s.taking l) = serve (s.taking l).extendWindow .ok
        [byteOf s.window.reload, byteOf (s.window.extUsed + 1)] := by
      rw [takeWindowExtend, if_neg (by simpa using mode),
        if_neg (by rw [State.taking_window]; omega), window]
      rfl
    refine (exec_answers (k := .windowExtend) (payload := []) ready (Nat.zero_le _) rfl
      fun f _ => answers f).trans (congrArg Host.Outcome.next ?_)
    have replied (u : State) (w : Window) (count : Nat) (r : Reply) :
        (u.setCount w count).putReply l r = (u.putReply l r).setCount w count := by
      simp only [State.setCount]
      split <;> cases l <;> rfl
    rw [State.extendWindow, replied, State.setCount_commit, State.taking_window]
    simp only [eq_comm (a := s.window.reload)]
    cases l <;> rfl

end Sys2Proof

namespace Sys2Proof.Machine

/-! ### FLOOR_ADVANCE -/

section
variable {s : State} (mode : s.mode = .verify ∨ s.mode = .settled) (l : Link) {f : Frame}
include mode

theorem takeFloorAdvance_badIndex (above : 11 < (byteAt f.payload 0).toNat) :
    takeFloorAdvance l f s = serve s .badIndex [0, 0] := by
  have absent : index? 12 (byteAt f.payload 0).toNat = none := index?_eq_none above
  simp only [takeFloorAdvance, (s.slotMode_iff).2 mode, absent]
  rfl

variable {i : Fin 12} (payload : f.payload = [byteOf i])
include payload

theorem takeFloorAdvance_slot : takeFloorAdvance l f s =
    if s.slots[i].ownedBy l = false then serve s .notOwner [byteOf (s.slotFloor s.slots[i]), 0]
    else match s.advanceRefusal s.slots[i] with
    | some status => serve s status [byteOf (s.slotFloor s.slots[i]), 0]
    | none => s.advance l i (s.slots[i].cls.getD 0)
        ((s.slots[i].parsed.map fun p => p.epoch).getD 0) := by
  have named : index? 12 (byteAt f.payload 0).toNat = some i := by
    rw [payload, byteAt_zero_cons, index?_byteOf i (by decide)]
  simp only [takeFloorAdvance, (s.slotMode_iff).2 mode, named, Bool.not_eq_true', Bool.not_true,
    Bool.false_eq_true, if_false] <;> rfl

theorem takeFloorAdvance_refused {status : Status}
    (refused : s.slots[i].ownedBy l = false ∧ status = .notOwner ∨
      s.slots[i].ownedBy l = true ∧ s.advanceRefusal s.slots[i] = some status) :
    takeFloorAdvance l f s = serve s status [byteOf (s.slotFloor s.slots[i]), 0] := by
  rw [takeFloorAdvance_slot mode l payload]
  rcases refused with ⟨other, rfl⟩ | ⟨owned, denied⟩
  · rw [if_pos other]
  · rw [if_neg (by rw [owned]; exact nofun), denied]

theorem takeFloorAdvance_accepted {c : Fin 8} {p : Parsed} (owner : s.slots[i].ownedBy l = true)
    (accepted : s.advanceRefusal s.slots[i] = none) (cls : s.slots[i].cls = some c)
    (parsed : s.slots[i].parsed = some p) :
    takeFloorAdvance l f s = s.advance l i c p.epoch := by
  rw [takeFloorAdvance_slot mode l payload, if_neg (by rw [owner]; exact nofun), accepted, cls, parsed]
  rfl

end

theorem State.fusesIdle_iff (s : State) : s.fusesIdle = true ↔ s.fuseOp = none ∧ s.reserved = false := by
  simp [State.fusesIdle]

theorem State.fusesIdle_eq_false (s : State) :
    s.fusesIdle = false ↔ s.fuseOp ≠ none ∨ s.reserved = true := by
  rw [← Bool.not_eq_true, s.fusesIdle_iff, not_and_or, Bool.not_eq_false]

end Sys2Proof.Machine

namespace Sys2Proof
open Machine

/-- Settles O23: the refusals in order, each with the floor, and then the two ends of `State.advance`. -/
theorem floorAdvanceStarts : Obligations.FloorAdvanceStarts := by
  intro s l tag rest ready mode
  have taken : (s.taking l).mode = .verify ∨ (s.taking l).mode = .settled := by simpa using mode
  have refuses : (s.taking l).advanceRefusal = s.advanceRefusal := by cases l <;> rfl
  have floors : (s.taking l).slotFloor = s.slotFloor := by cases l <;> rfl
  have denied (i : Fin 12) (status : Status) (refused : s.slots[i].ownedBy l = false ∧ status = .notOwner ∨
      s.slots[i].ownedBy l = true ∧ s.advanceRefusal s.slots[i] = some status) :
      exec (.floorAdvance l (goodRequest .floorAdvance tag [byteOf i])) s = .next (s.replied l
        (replyOf .floorAdvance tag status [byteOf (s.slotFloor s.slots[i]), 0])) :=
    exec_replied (k := .floorAdvance) rest ready (Nat.le_add_left 1 _) rfl fun f payload => by
      have answer := takeFloorAdvance_refused (s := s.taking l) taken l payload (status := status)
      rw [State.taking_slots, refuses, floors] at answer
      exact answer refused
  refine ⟨fun b above => ?_, fun i => ⟨fun status refused => ?_, fun c p policy state owner cls parsed
    flag inForce => ?_⟩⟩
  · exact exec_replied (k := .floorAdvance) rest ready (Nat.le_add_left 1 _) rfl fun f payload =>
      takeFloorAdvance_badIndex taken l (by rw [payload]; exact above)
  · refine (denied i status ?_).trans (congrArg (fun v => Host.Outcome.next (s.replied l
      (replyOf .floorAdvance tag status [v, 0]))) ?_)
    · have owns (h : s.slots[i].state = .free ∨ s.slots[i].owner = some l) :
          s.slots[i].ownedBy l = true := by
        rw [Slot.ownedBy, Bool.or_eq_true, beq_iff_eq, beq_iff_eq]
        exact h
      rcases refused with ⟨claimed, other, rfl⟩ | ⟨owned, state, rfl⟩ |
        ⟨state, owned, ⟨p, parsed, flag⟩, rfl⟩
      · exact .inl ⟨(Slot.ownedBy_eq_false _ l).2 ⟨claimed, other⟩, rfl⟩
      · exact .inr ⟨owns owned, if_pos state⟩
      · refine .inr ⟨owns (.inr owned), ?_⟩
        rw [State.advanceRefusal, if_neg (not_not_intro state), parsed, if_pos (by simpa using flag)]
    · rw [State.slotFloor]
      cases s.slots[i].cls <;> rfl
  · have owned : s.slots[i].ownedBy l = true := by
      rw [Slot.ownedBy, owner, beq_self_eq_true, Bool.or_true]
    have level : s.slotFloor s.slots[i] = s.floor c := by rw [State.slotFloor, cls]; rfl
    have byFuses : s.advanceRefusal s.slots[i] = if s.fusesIdle = false then some .retryLater else none := by
      rw [State.advanceRefusal, if_neg (not_not_intro state), parsed, if_neg (by simp [flag])]
      simp only [Bool.not_eq_true']
    have accepted (fuseOp : s.fuseOp = none) (reserved : s.reserved = false) (f : Frame)
        (payload : f.payload = [byteOf i]) :
        takeFloorAdvance l f (s.taking l) = (s.taking l).advance l i c p.epoch := by
      refine takeFloorAdvance_accepted taken l payload (by simpa using owned) ?_ (by simpa using cls)
        (by simpa using parsed)
      rw [refuses, State.taking_slots, byFuses, if_neg]
      rw [(s.fusesIdle_iff).2 ⟨fuseOp, reserved⟩]
      exact nofun
    have floor : (s.taking l).floor c = s.floor c := by cases l <;> rfl
    have step : (s.taking l).maxStep = policy.maxStep.toNat := by
      rw [State.maxStep, State.taking_inForce, inForce]
      rfl
    refine ⟨fun busy => ?_, fun fuseOp reserved below => ?_, fun fuseOp reserved above => ?_⟩
    · have refused := denied i .retryLater
        (.inr ⟨owned, by rw [byFuses, if_pos ((s.fusesIdle_eq_false).2 busy)]⟩)
      rw [level] at refused
      exact refused
    · refine exec_replied (k := .floorAdvance) rest ready (Nat.le_add_left 1 _) rfl fun f payload =>
        (accepted fuseOp reserved f payload).trans ?_
      simp only [State.advance, floor, step]
      exact if_pos below
    · refine exec_served (k := .floorAdvance) (payload := [byteOf i]) { s with
        fuseOp := some
          { kind := .floor i c (min p.epoch (s.floor c + policy.maxStep.toNat)), position := 0, link := l
            burnList := floorBurnList (s.floor c) (min p.epoch (s.floor c + policy.maxStep.toNat)) } }
        (rest.same rfl rfl rfl rfl) (by cases l <;> exact ready.entry) ready (Nat.le_add_left 1 _) rfl
        fun f payload => (accepted fuseOp reserved f payload).trans ?_
      simp only [State.advance, floor, step]
      refine (if_neg (Nat.not_le.2 above)).trans ?_
      cases l <;> rfl

end Sys2Proof
end

section
/-! SUPPORT. The mode check of every request, and the frame checks (R143, R170). -/

namespace Sys2Proof.Machine

theorem State.slotMode_eq_false (s : State) :
    (!s.slotMode) = true ↔ s.mode ≠ .verify ∧ s.mode ≠ .settled := by
  rw [Bool.not_eq_true', ← Bool.not_eq_true, s.slotMode_iff, not_or]

/-- The modes in which a kind of request is not accepted, but for WINDOW_EXTEND, whose reply carries the count
(Table 9-3). -/
def OutsideModes (k : Kind) (mode : Mode) : Prop :=
  (k ∈ [.policySet, .keyEnroll, .provisionClose] ∧ mode ≠ .provision) ∨
  (k = .policyGet ∧ (mode = .startup ∨ mode = .failsafe)) ∨
  (k ∈ [.slotOpen, .classDecline] ∧ mode ≠ .verify) ∨
  (k ∈ [.manData, .manClose, .segOpen, .segData, .segClose, .slotQuery, .slotDrop,
    .floorAdvance, .keyRevoke] ∧ mode ≠ .verify ∧ mode ≠ .settled)

/-- The mode check is the first of every handler that has one (R143). -/
theorem handlerOf_wrongMode {k : Kind} {s : State} (outside : OutsideModes k s.mode) (l : Link)
    (f : Frame) : handlerOf k l f s = refuse k s .wrongMode := by
  rcases outside with ⟨kind, mode⟩ | ⟨rfl, mode⟩ | ⟨kind, mode⟩ | ⟨kind, mode⟩
  · simp only [List.mem_cons, List.not_mem_nil, or_false] at kind
    rcases kind with rfl | rfl | rfl <;> exact if_pos mode
  · exact if_pos mode
  · simp only [List.mem_cons, List.not_mem_nil, or_false] at kind
    rcases kind with rfl | rfl <;> exact if_pos mode
  · simp only [List.mem_cons, List.not_mem_nil, or_false] at kind
    have closed := s.slotMode_eq_false.2 mode
    rcases kind with rfl | rfl | rfl | rfl | rfl | rfl | rfl | rfl | rfl <;> exact if_pos closed

/-! ### The frame checks -/

/-- A frame whose CRC fails is answered BAD_CRC by whatever would take it (R170). -/
theorem takeRequest_badCrc (k : Kind) (h : Handler) (l : Link) {f : Frame} (s : State)
    (bad : frameCrc f ≠ f.crc) : takeRequest k h l f s = s.badCrc l f := if_pos bad

theorem takeFrame_badCrc (l : Link) {f : Frame} (s : State) (bad : frameCrc f ≠ f.crc) :
    takeFrame l f s = s.badCrc l f := by
  unfold takeFrame
  split
  · exact takeRequest_badCrc _ _ l s bad
  · exact if_pos bad

/-- A KIND outside Table 11-4 names no kind. -/
theorem kindOf_eq_none {b : Byte} (none : ∀ k, b ≠ kindCode k) : kindOf b = Option.none := by
  cases found : kindOf b with
  | none => rfl
  | some k => 
    rw [kindOf] at found
    have code := List.find?_some found
    exact absurd (beq_iff_eq.1 code).symm (none k)

theorem takeFrame_badKind (l : Link) {f : Frame} (s : State) (good : frameCrc f = f.crc)
    (none : ∀ k, f.kind ≠ kindCode k) :
    takeFrame l f s = State.answer l f (serve s .badKind []) := by
  rw [takeFrame, kindOf_eq_none none]
  exact if_neg (not_not_intro good)

theorem takeRequest_badLength (k : Kind) (h : Handler) (l : Link) {f : Frame} (s : State)
    (good : frameCrc f = f.crc) (size : payloadSizeOk k f.payload.length = false) :
    takeRequest k h l f s = State.answer l f (refuse k s .badLength) := by
  rw [takeRequest, if_neg (not_not_intro good), if_pos (by rw [size]; rfl)]

/-- BAD_CRC on a ready link, as its event closes: the reply, and LINK_ERROR on that link (R161, R170). -/
theorem State.badCrc_commit {s : State} (rest : s.AtRest) (l : Link) (f : Frame) :
    ((s.taking l).badCrc l f).commit = State.drive ((s.spendWindow l).onLink l fun x =>
      ({ x with
        rx := .hunting
        ordinary := some { kind := f.kind + 0x80, tag := f.tag, status := .badCrc, payload := [] } } :
        LinkState).flagged 0x100) := by
  refine Eq.trans ?_ (State.commit_onLink rest l fun x =>
    { x with
      rx := .hunting, flags := x.flags ||| 0x100
      ordinary := some { kind := f.kind + 0x80, tag := f.tag, status := .badCrc, payload := [] } })
  cases l <;> rfl

end Sys2Proof.Machine

namespace Sys2Proof
open Machine

/-- Settles O53: the mode check comes first, and changes nothing. -/
theorem wrongModeRefuses : Obligations.WrongModeRefuses := by
  intro s l tag k payload rest ready fits size outside
  refine exec_replied rest ready fits size fun f _ => ?_
  refine (handlerOf_wrongMode (s := s.taking l) ?_ l f).trans rfl
  rw [State.taking_mode]
  exact outside

/-- Settles O52: a frame that fits is taken on a ready link, and its first failed check answers it. -/
theorem frameChecksRefuse : Obligations.FrameChecksRefuse := by
  intro s l f rest ready fits
  have anyFrame : exec (.badKindFrame l f) s = .next (takeFrame l f (s.taking l)).commit :=
    congrArg (fun t : State => Host.Outcome.next t.commit) (State.arrive_ready ready (takeFrame l f) f fits)
  have known (k : Kind) (q : Request) (named : f = requestFrame k q) :
      exec (requestCommand l k q) s = .next (takeRequest k (handlerOf k) l f (s.taking l)).commit := by
    subst named
    rw [exec_requestCommand]
    exact congrArg (fun t : State => Host.Outcome.next t.commit) (State.arrive_ready ready _ _ fits)
  have replied (status : Status) (payload : List Byte) :
      (State.answer l f (serve (s.taking l) status payload)).commit =
        s.replied l (replyTo f ⟨status, payload⟩) := State.answer_replied rest ready.entry rfl f _
  refine ⟨fun bad => ?_, fun good none => ?_, fun good k q named size => ?_⟩
  · have bad : frameCrc f ≠ f.crc := fun e => bad e.symm
    have crc : exec (.badKindFrame l f) s = .next ((s.taking l).badCrc l f).commit := by
      rw [anyFrame, takeFrame_badCrc l _ bad]
    refine ⟨by rw [crc, State.badCrc_commit rest], fun k q named => ?_⟩
    rw [known k q named, crc, takeRequest_badCrc _ _ l _ bad]
  · rw [anyFrame, takeFrame_badKind l _ good.symm none, replied]
    rfl
  · rw [known k q named, takeRequest_badLength k _ l _ good.symm size, refuse, replied]
    rfl

end Sys2Proof
end

section
/-! SUPPORT. KEY_QUERY and KEY_ENROLL (R77, R84, R85). -/

namespace Sys2Proof.Machine

/-! ### KEY_QUERY -/

/-- Where the fields of a KEY_QUERY reply stand (Table 11-9). -/
theorem keyQuery_fields {p label digest : List Byte} {state role blank revoking : Byte}
    {floor : Fin 8 → Byte} (labelled : label.length = 8) (digested : digest.length = 8)
    (payload : p = [state, role] ++ label ++ digest ++ [blank, revoking] ++ (List.finRange 8).map floor) :
    p.length = 28 ∧ byteAt p 0 = state ∧ byteAt p 1 = role ∧ slice p 2 8 = label ∧
      slice p 10 8 = digest ∧ byteAt p 18 = blank ∧ byteAt p 19 = revoking ∧
      ∀ c : Fin 8, byteAt p (20 + c) = floor c := by
  have joined : p = [[state, role], label, digest, [blank, revoking], (List.finRange 8).map floor].flatten := by
    simp [payload]
  have block (j : Fin 5) := slice_flatten
    [[state, role], label, digest, [blank, revoking], (List.finRange 8).map floor] j j.isLt
  rw [← joined] at block
  have head : slice p 0 2 = [state, role] := block 0
  have name : slice p 2 8 = label := by simpa [labelled] using block 1
  have digestAt : slice p 10 8 = digest := by simpa [labelled, digested] using block 2
  have marks : slice p 18 2 = [blank, revoking] := by simpa [labelled, digested] using block 3
  have floors : slice p 20 8 = (List.finRange 8).map floor := by
    simpa [labelled, digested] using block 4
  refine ⟨by simp [payload, labelled, digested], ?_, ?_, name, digestAt, ?_, ?_,
    byteAt_of_slice_table floors⟩
  · exact byteAt_of_slice head (i := 0) (by decide)
  · exact byteAt_of_slice head (i := 1) (by decide)
  · exact byteAt_of_slice marks (i := 0) (by decide)
  · exact byteAt_of_slice marks (i := 1) (by decide)

theorem State.keyLabel_length (s : State) (k : Fin 10) : (s.keyLabel k).length = 8 := by
  unfold State.keyLabel
  split <;> simp

section
variable (l : Link) {s : State} {f : Frame} {b : Byte} (payload : f.payload = [b])
include payload

theorem takeKeyQuery_badIndex (above : 9 < b.toNat) :
    takeKeyQuery l f s = serve s .badIndex (List.replicate 28 0) := by
  have absent : index? 10 (byteAt [b] 0).toNat = none := index?_eq_none above
  rw [takeKeyQuery, payload, absent]
  rfl

theorem takeKeyQuery_key (k : Fin 10) (named : b.toNat = k.val) :
    takeKeyQuery l f s = serve s .ok (keyQueryPayload s k) := by
  have found : index? 10 (byteAt [b] 0).toNat = some k := by rw [byteAt_zero_cons, named, index?_val]
  rw [takeKeyQuery, payload, found]

end

/-- A key index of 0 or 1 names no OTP entry, and one of 2 to 9 the entry two below. -/
theorem otpEntry_root {k : Fin 10} (root : k.val < 2) : otpEntry k = none := dif_neg (by omega)

theorem otpEntry_keyOfEntry (e : Fin 8) : otpEntry (keyOfEntry e) = some e := by
  have above : 2 ≤ (keyOfEntry e).val := Nat.le_add_left 2 e.val
  rw [otpEntry, dif_pos above]
  rfl

/-- Taking a frame leaves all that KEY_QUERY reports. -/
theorem keyQueryPayload_taking (s : State) (l : Link) (k : Fin 10) :
    keyQueryPayload (s.taking l) k = keyQueryPayload s k := by
  cases l <;> rfl

theorem exec_keyQuery {s : State} {l : Link} (rest : s.AtRest) (ready : s.Ready l) {tag b : Byte}
    (k : Fin 10) (named : b.toNat = k.val) :
    exec (.keyQuery l (goodRequest .keyQuery tag [b])) s =
      .next (s.replied l (replyOf .keyQuery tag .ok (keyQueryPayload s k))) :=
  exec_replied (k := .keyQuery) rest ready (Nat.le_add_left 1 _) rfl fun f payload => by
    rw [← keyQueryPayload_taking s l]
    exact takeKeyQuery_key l payload k named

/-- Bit `i` of a byte cut out of a row is the row's bit there. -/
theorem extractLsb'_getLsbD_byte {w : Nat} (row : BitVec w) (start : Nat) (i : Fin 8) :
    (row.extractLsb' start 8).getLsbD i = row.getLsbD (start + i) := by
  rw [BitVec.getLsbD_extractLsb', decide_eq_true i.isLt, Bool.true_and]

theorem byteAt_table {n : Nat} (g : Nat → Byte) (m : Fin n) :
    byteAt ((List.range n).map g) m = g m := by simp [byteAt]

theorem flagByte_beq {α : Type} [BEq α] [LawfulBEq α] (x y : α) [Decidable (x = y)] :
    flagByte (x == y) = if x = y then 1 else 0 := by
  by_cases same : x = y <;> simp [same, flagByte]

/-- The mark of a pending revocation of a key (R77). -/
theorem State.revokingMark (s : State) (k : Fin 10) : flagByte (s.revoking == some k) =
    if s.revoking.map (fun t => t.val) = some k.val then 1 else 0 := by
  rw [flagByte_beq]
  refine if_congr ?_ rfl rfl
  cases s.revoking <;> simp [Fin.ext_iff]

end Sys2Proof.Machine

namespace Sys2Proof
open Machine

/-- Settles O24: the payload's fields stand where Table 11-9 has them, for a root and for an OTP entry. -/
theorem keyQueryReports : Obligations.KeyQueryReports := by
  intro s l tag b rest ready
  refine ⟨fun above => ?_, ?_, fun e named => ?_⟩
  · exact exec_replied (k := .keyQuery) rest ready (Nat.le_add_left 1 _) rfl fun f payload =>
      takeKeyQuery_badIndex l payload above
  · rintro k rfl
    set key : Fin 10 := ⟨k.val, by omega⟩ with hkey
    have noEntry : otpEntry key = none := otpEntry_root k.isLt
    obtain ⟨length, state, role, label, digest, blank, revoking, floors⟩ :=
      keyQuery_fields (p := keyQueryPayload s key) (s.keyLabel_length key)
        (digest := (sha256 (s.keyBytes key)).take 8) (by simp) rfl
    have root : rootEntry s key = s.rom.roots[k] := by
      rw [rootEntry]
      rcases k with ⟨_ | _ | n, hk⟩
      · rfl
      · rfl
      · omega
    refine ⟨_, exec_keyQuery rest ready key (byteOf_toNat (by omega)), length, ?_, ?_, ?_, ?_, ?_, ?_, floors⟩
    · have revoked : s.revokeBurnt key = s.fuses.revoke.getLsbD k := rfl
      rw [state, State.keyState, noEntry, revoked]
      split <;> rfl
    · rw [role, State.roleMask, noEntry]
    · rw [label, State.keyLabel, noEntry, root]
    · rw [digest, State.keyBytes, noEntry, root]
    · rw [blank, State.keyBlank, noEntry]; rfl
    · rw [revoking, State.revokingMark]
  · set key : Fin 10 := keyOfEntry e with hkey
    have entry : otpEntry key = some e := otpEntry_keyOfEntry e
    obtain ⟨length, state, role, label, digest, blank, revoking, floors⟩ :=
      keyQuery_fields (p := keyQueryPayload s key) (s.keyLabel_length key)
        (digest := (sha256 (s.keyBytes key)).take 8) (by simp) rfl
    refine ⟨_, exec_keyQuery rest ready key named, length, ?_, fun i => ?_, fun m i => ?_, ?_, ?_, ?_, floors⟩
    · have revoked : s.revokeBurnt key = s.fuses.revoke.getLsbD (e.val + 2) := rfl
      have active : s.fuses.entries[e].getLsbD activeFuse = s.fuses.entries[e].getLsbD 584 := rfl
      simp only [state, State.keyState, entry, revoked, active]
      split
      · rfl
      · split <;> rfl
    · simp only [role, State.roleMask, entry]
      rw [extractLsb'_getLsbD_byte, Nat.zero_add]
    · simp only [byteAt_of_slice label m.isLt, State.keyLabel, entry]
      rw [byteAt_table, entryByte, extractLsb'_getLsbD_byte, dataFuse, Nat.add_zero]
    · simp only [digest, State.keyBytes, entry]
      rfl
    · simp only [blank, State.keyBlank, entry]
      rw [flagByte_beq]
    · rw [revoking, State.revokingMark]
      rfl

end Sys2Proof

namespace Sys2Proof.Machine

/-! ### KEY_ENROLL -/

theorem takeKeyEnroll_linkDenied {s : State} (mode : s.mode = .provision) (f : Frame) :
    takeKeyEnroll .e f s = serve s .linkDenied [0, 0, 0] := by
  rw [takeKeyEnroll, if_neg (not_not_intro mode), if_pos rfl]
  rfl

/-- An index that is no OTP entry's is refused (R84). -/
theorem takeKeyEnroll_badIndex {s : State} (mode : s.mode = .provision) {f : Frame}
    (bad : (byteAt f.payload 0).toNat < 2 ∨ 9 < (byteAt f.payload 0).toNat) :
    takeKeyEnroll .m f s = serve s .badIndex [0, 0, 0] := by
  have none : (index? 10 (byteAt f.payload 0).toNat).bind otpEntry = none := by
    rcases bad with below | above
    · rw [index?, dif_pos (by omega), Option.bind_some]
      exact otpEntry_root below
    · rw [index?_eq_none above]
      rfl
  rw [takeKeyEnroll, if_neg (not_not_intro mode), if_neg nofun, none]
  rfl

/-- An OTP entry is refused unless it is EMPTY, and while the controller is busy; else its burn starts
(R84, R85). -/
theorem takeKeyEnroll_entry {s : State} (mode : s.mode = .provision) {f : Frame} (e : Fin 8)
    (named : (byteAt f.payload 0).toNat = e.val + 2) {list : List Nat}
    (listed : enrolBurnList (byteAt f.payload 1) (slice f.payload 2 64) (slice f.payload 66 8) = list) :
    takeKeyEnroll .m f s =
      if s.keyState (keyOfEntry e) ≠ .empty then serve s .keyState [0, 0, 0]
      else if s.fusesIdle = false then serve s .retryLater [0, 0, 0]
      else serve
        { s with fuseOp := some { kind := .enroll e, burnList := list, position := 0, link := .m } }
        .accepted (byteOf (keyOfEntry e) :: leBytes 2 list.length) := by
  have found : (index? 10 (byteAt f.payload 0).toNat).bind otpEntry = some e := by
    rw [named, show e.val + 2 = (keyOfEntry e).val from rfl, index?_val, Option.bind_some,
      otpEntry_keyOfEntry]
  rw [takeKeyEnroll, if_neg (not_not_intro mode), if_neg nofun, found]
  simp only [Bool.not_eq_true', listed]
  rfl

theorem State.keyState_entry (s : State) (e : Fin 8) : s.keyState (keyOfEntry e) = .empty ↔
    s.fuses.revoke.getLsbD (e.val + 2) = false ∧ s.fuses.entries[e].getLsbD 584 = false := by
  have revoked : s.revokeBurnt (keyOfEntry e) = s.fuses.revoke.getLsbD (e.val + 2) := rfl
  have active : s.fuses.entries[e].getLsbD activeFuse = s.fuses.entries[e].getLsbD 584 := rfl
  simp only [State.keyState, otpEntry_keyOfEntry, revoked, active]
  cases s.fuses.revoke.getLsbD (e.val + 2) <;> cases s.fuses.entries[e].getLsbD 584 <;> simp

/-- Bit `n` of a number that bytes spell, low byte first, is bit `n` mod 8 of byte `n` div 8. -/
theorem leNat_testBit (bytes : List Byte) (n : Nat) :
    (leNat bytes).testBit n = (byteAt bytes (n / 8)).getLsbD (n % 8) := by
  induction bytes generalizing n with
  | nil => simp [leNat, byteAt]
  | cons b rest ih =>
    have low : b.toNat < 2 ^ 8 := b.isLt
    rw [leNat, Nat.add_comm, show 256 = 2 ^ 8 from rfl, Nat.testBit_two_pow_mul_add _ low]
    split
    next small =>
      have zero : n / 8 = 0 := Nat.div_eq_of_lt small
      rw [zero, Nat.mod_eq_of_lt small]
      rfl
    next large =>
      obtain ⟨m, rfl⟩ := Nat.exists_eq_add_of_le (Nat.not_lt.1 large)
      rw [Nat.add_sub_cancel_left, ih, show (8 + m) / 8 = m / 8 + 1 by omega, Nat.add_mod_left]
      rfl

/-- The burn list of an enrolment, by the bytes it is made of (R85). -/
theorem enrolBurnList_eq {role : Byte} {key label : List Byte} (keyed : key.length = 64)
    (labelled : label.length = 8) : enrolBurnList role key label =
      ((List.range 584).filter fun n =>
        (byteAt (role :: key ++ label) (n / 8)).getLsbD (n % 8)) ++ [584] := by
  have whole : padTo 64 key = key ∧ padTo 8 label = label :=
    ⟨by rw [padTo_of_le keyed.ge, List.take_of_length_le keyed.le],
      by rw [padTo_of_le labelled.ge, List.take_of_length_le labelled.le]⟩
  rw [enrolBurnList, activeFuse]
  refine congrArg (· ++ [584]) (List.filter_congr fun n below => ?_)
  have inRow : n < 585 := Nat.lt_succ_of_lt (List.mem_range.1 below)
  rw [enrolmentBits, BitVec.getLsbD_ofNat, whole.1, whole.2, leNat_testBit, decide_eq_true inRow,
    Bool.true_and]

end Sys2Proof.Machine

namespace Sys2Proof
open Machine

/-- Settles O26: the refusals in order, and the burn list read bit by bit. -/
theorem keyEnrollStarts : Obligations.KeyEnrollStarts := by
  intro s tag role key label rest mode keyed labelled
  have taken (l : Link) : (s.taking l).mode = .provision := by simpa using mode
  have length (b : Byte) : (b :: role :: key ++ label).length = 74 := by simp [keyed, labelled]
  have fits (b : Byte) : (b :: role :: key ++ label).length ≤ 1038 := by rw [length]; omega
  have size (b : Byte) : payloadSizeOk .keyEnroll (b :: role :: key ++ label).length = true := by
    rw [length]; rfl
  refine ⟨fun b ready => ?_, fun b ready bad => ?_, fun e ready => ?_⟩
  · exact exec_replied (k := .keyEnroll) rest ready (fits b) (size b) fun f _ =>
      takeKeyEnroll_linkDenied (taken .e) f
  · exact exec_replied (k := .keyEnroll) rest ready (fits b) (size b) fun f payload =>
      takeKeyEnroll_badIndex (taken .m) (by rw [payload]; exact bad)
  have named : (byteOf (e.val + 2)).toNat = e.val + 2 := byteOf_toNat (by omega)
  have listed (f : Frame) (payload : f.payload = byteOf (e.val + 2) :: role :: key ++ label) :
      enrolBurnList (byteAt f.payload 1) (slice f.payload 2 64) (slice f.payload 66 8) =
        enrolBurnList role key label := by
    have keyAt : slice f.payload 2 64 = key := by
      rw [payload]
      exact List.take_left' keyed
    have labelAt : slice f.payload 66 8 = label := by
      have dropped : (byteOf (e.val + 2) :: role :: key ++ label).drop 66 = label :=
        List.drop_left' (l₁ := byteOf (e.val + 2) :: role :: key) (by simp [keyed])
      rw [payload, slice, dropped, List.take_of_length_le labelled.le]
    rw [keyAt, labelAt, payload]
    rfl
  have answers (f : Frame) (payload : f.payload = byteOf (e.val + 2) :: role :: key ++ label) :=
    takeKeyEnroll_entry (s := s.taking .m) (taken .m) e (by rw [payload]; exact named) (listed f payload)
  have state : (s.taking .m).keyState (keyOfEntry e) = .empty ↔
      s.fuses.revoke.getLsbD (e.val + 2) = false ∧ s.fuses.entries[e].getLsbD 584 = false := by
    rw [State.keyState_entry, State.taking_fuses]
  have idle : (s.taking .m).fusesIdle = s.fusesIdle := rfl
  refine ⟨fun busy => ?_, fun empty busy => ?_, fun empty fuseOp reserved => ?_⟩
  · exact exec_replied (k := .keyEnroll) rest ready (fits _) (size _) fun f payload =>
      (answers f payload).trans (if_pos fun e => busy (state.1 e))
  · refine exec_replied (k := .keyEnroll) rest ready (fits _) (size _) fun f payload =>
      (answers f payload).trans ((if_neg (not_not_intro (state.2 empty))).trans (if_pos ?_))
    rw [idle]
    exact s.fusesIdle_eq_false.2 busy
  · rw [← enrolBurnList_eq keyed labelled]
    refine exec_served (l := .m) (k := .keyEnroll) (payload := byteOf (e.val + 2) :: role :: key ++ label)
      { s with fuseOp := some { kind := .enroll e, burnList := enrolBurnList role key label,
                                position := 0, link := .m } }
      (rest.same rfl rfl rfl rfl) ready.entry ready (fits _) (size _) fun f payload =>
      (answers f payload).trans ((if_neg (not_not_intro (state.2 empty))).trans ?_)
    have free : s.fusesIdle ≠ false := by
      rw [s.fusesIdle_iff.2 ⟨fuseOp, reserved⟩]
      exact nofun
    rw [idle, if_neg free]
    rfl

end Sys2Proof
end

section
/-! SUPPORT. The requests that place a job: KEY_REVOKE and MAN_CLOSE of a good manifest (R14, R15, R60, R78,
R79). -/

namespace Sys2Proof.Machine

/-! ### A job placed -/

/-- An event that moved no slot closes no class and wins none. -/
theorem State.conclude_same {before s : State} (slots : s.slots = before.slots) :
    before.conclude s = s := by
  refine State.conclude_still (fun c => ?_) ?_
  · rw [← Bool.not_eq_true, State.closes_iff]
    rintro ⟨⟨i, live, -, dead⟩, -⟩
    rw [slots, live] at dead
    cases dead
  · rw [State.wins, List.any_eq_false]
    intro i _ won
    rw [slots, Bool.and_eq_true, Bool.and_eq_true, beq_iff_eq] at won
    obtain ⟨⟨live, -⟩, state⟩ := won
    rw [Slot.live, state] at live
    cases live

theorem State.placeJob_busy {s : State} (j : Job) (busy : s.active ≠ none) :
    s.placeJob j = { s with jobs := s.jobs ++ [j] } := by
  have working : s.startNext { s with jobs := s.jobs ++ [j] } = s.conclude { s with jobs := s.jobs ++ [j] } :=
    State.startNext_busy (Option.isSome_iff_ne_none.2 busy)
  rw [State.placeJob, working]
  exact State.conclude_same rfl

/-- An idle unit with no job waiting starts the job that is placed (R60). -/
theorem State.placeJob_idle {s : State} {j : Job} (idle : s.active = none) (empty : s.jobs = [])
    (starts : ∀ i g, j = .manifest i g → s.slotKeyRevoked i = false) :
    s.placeJob j = { s with active := some (s.startedJob j) } := by
  have placed : ({ s with jobs := s.jobs ++ [j] } : State) = { s with jobs := [j] } := by rw [empty]; rfl
  have first : ({ s with jobs := [j] } : State).endStarts = { s with jobs := [j] } :=
    State.endStarts_none fun i g rest e => starts i g (List.cons.inj e).1
  have still : s.conclude { s with jobs := [j] } = { s with jobs := [j] } := State.conclude_same rfl
  rw [State.placeJob, placed, State.startNext, if_neg (by rw [idle]; exact nofun), first, still, first,
    State.takeJob]
  have jobs : ({ s with jobs := [], active := some (s.startedJob j) } : State) =
      { s with active := some (s.startedJob j) } := by rw [← empty]
  exact jobs

theorem State.queueRoom_eq_false (s : State) : s.queueRoom = false ↔ 6 ≤ s.jobs.length := by
  rw [State.queueRoom, decide_eq_false_iff_not, Nat.not_lt]

theorem State.queueRoom_iff (s : State) : s.queueRoom = true ↔ s.jobs.length < 6 := decide_eq_true_iff

/-! ### KEY_REVOKE -/

/-- A root is ACTIVE unless it is revoked (R74). -/
theorem State.keyState_signer (s : State) (r : Fin 2) :
    s.keyState (signerKey r) = .active ↔ s.fuses.revoke.getLsbD r = false := by
  have revoked : s.revokeBurnt (signerKey r) = s.fuses.revoke.getLsbD r := rfl
  simp only [State.keyState, otpEntry_root (k := signerKey r) r.isLt, revoked]
  cases s.fuses.revoke.getLsbD r <;> simp

/-- Check 3 of KEY_REVOKE passes for one signer alone (R78). -/
theorem State.noticeSigner_eq_some (s : State) (b : Byte) (target : Fin 10) (r : Fin 2) :
    s.noticeSigner b.toNat target = some r ↔
      b = byteOf r ∧ s.fuses.revoke.getLsbD r = false ∧ target.val ≠ r.val := by
  have differs (q : Fin 2) : signerKey q ≠ target ↔ target.val ≠ q.val := by
    rw [ne_eq, ne_eq, Fin.ext_iff, eq_comm]
    rfl
  have small : (byteOf r).toNat = r.val := byteOf_toNat (by omega)
  rw [State.noticeSigner, index?]
  split
  next above =>
    have byte : b = byteOf r ↔ False := by
      refine ⟨?_, False.elim⟩
      rintro rfl
      split at above
      · cases above
      next far => exact far (by omega)
    simp [byte]
  next q found =>
    split at found
    next below =>
      obtain rfl := Option.some.inj found
      have byte : b = byteOf r ↔ (⟨b.toNat, below⟩ : Fin 2) = r := by
        rw [Fin.ext_iff]
        exact ⟨fun e => (congrArg BitVec.toNat e).trans small, fun e => BitVec.eq_of_toNat_eq (e.trans small.symm)⟩
      rw [byte]
      constructor
      · intro accepted
        split at accepted
        next good =>
          cases accepted
          exact ⟨rfl, (s.keyState_signer _).1 good.1, (differs _).1 good.2⟩
        · cases accepted
      · rintro ⟨rfl, unburnt, ne⟩
        rw [if_pos ⟨(s.keyState_signer _).2 unburnt, (differs _).2 ne⟩]
    · cases found

theorem State.noticeSigner_eq_none (s : State) (b : Byte) (target : Fin 10)
    (none : ∀ r : Fin 2, ¬(b = byteOf r ∧ s.fuses.revoke.getLsbD r = false ∧ target.val ≠ r.val)) :
    s.noticeSigner b.toNat target = Option.none := by
  cases found : s.noticeSigner b.toNat target with
  | none => rfl
  | some r => exact absurd ((s.noticeSigner_eq_some b target r).1 found) (none r)

section
variable {s : State} (mode : s.mode = .verify ∨ s.mode = .settled) (l : Link) {f : Frame}
include mode

theorem takeKeyRevoke_badIndex (above : 9 < (byteAt f.payload 0).toNat) :
    takeKeyRevoke l f s = serve s .badIndex [0] := by
  have absent : index? 10 (byteAt f.payload 0).toNat = none := index?_eq_none above
  have open_ : (s.mode == .verify || s.mode == .settled) = true := s.slotMode_iff.2 mode
  simp only [takeKeyRevoke, open_, absent]
  rfl

variable {target : Fin 10} (named : byteAt f.payload 0 = byteOf target)
include named

theorem takeKeyRevoke_target : takeKeyRevoke l f s =
    if s.keyState target ≠ .active then refuse .keyRevoke s .keyState
    else (s.noticeSigner (byteAt f.payload 1).toNat target).elim (refuse .keyRevoke s .badSigner)
      fun signer =>
        if !s.fusesIdle then refuse .keyRevoke s .retryLater
        else if !s.queueRoom then refuse .keyRevoke s .retryLater
        else serve (s.acceptNotice l target signer (slice f.payload 2 64)) .accepted [byteOf target] := by
  have found : index? 10 (byteAt f.payload 0).toNat = some target := by
    rw [named, index?_byteOf target (by decide)]
  have open_ : (s.mode == .verify || s.mode == .settled) = true := s.slotMode_iff.2 mode
  simp only [takeKeyRevoke, open_, found]
  cases s.noticeSigner (byteAt f.payload 1).toNat target <;> rfl

end

theorem State.startedJob_revoke (s : State) (l : Link) (target : Fin 10) (r : Fin 2) (sig : List Byte) :
    s.startedJob (.revoke l target r sig) = .revoke l target r
      ([0x52, 0x45, 0x56, 0x4B, byteOf target] ++ s.rom.serial.toList) s.rom.roots[r].key.toList sig := by
  have key : s.keyBytes (signerKey r) = s.rom.roots[r].key.toList := by
    simp only [State.keyBytes, otpEntry_root (k := signerKey r) r.isLt, rootEntry]
    rcases r with ⟨_ | _ | n, hr⟩
    · rfl
    · rfl
    · omega
  rw [State.startedJob, key]
  rfl

end Sys2Proof.Machine

namespace Sys2Proof
open Machine

/-- Settles O25: the refusals in order; an accepted notice reserves the controller and places its job. -/
theorem keyRevokeReserves : Obligations.KeyRevokeReserves := by
  intro s l tag a b sig rest ready mode signed
  have taken : (s.taking l).mode = .verify ∨ (s.taking l).mode = .settled := by simpa using mode
  have length : (a :: b :: sig).length = 66 := by simp [signed]
  have fits : (a :: b :: sig).length ≤ 1038 := by omega
  have size : payloadSizeOk .keyRevoke (a :: b :: sig).length = true := by rw [length]; rfl
  have keyState (k : Fin 10) : (s.taking l).keyState k = s.keyState k := by
    cases l <;> rfl
  have signer (k : Fin 10) : (s.taking l).noticeSigner b.toNat k = s.noticeSigner b.toNat k := by
    cases l <;> rfl
  have idle : (s.taking l).fusesIdle = s.fusesIdle := by cases l <;> rfl
  have room : (s.taking l).queueRoom = s.queueRoom := by cases l <;> rfl
  have answers (target : Fin 10) (named : a = byteOf target) (f : Frame)
      (payload : f.payload = a :: b :: sig) :=
    takeKeyRevoke_target (s := s.taking l) taken l (f := f) (target := target) (by rw [payload]; exact named)
  have second (f : Frame) (payload : f.payload = a :: b :: sig) : byteAt f.payload 1 = b := by
    rw [payload]; rfl
  refine ⟨fun status refused => ?_, ?_⟩
  · refine exec_replied (k := .keyRevoke) rest ready fits size fun f payload => ?_
    rcases refused with ⟨above, rfl⟩ | ⟨target, named, refused⟩
    · exact takeKeyRevoke_badIndex taken l (by rw [payload]; exact above)
    refine (answers target named f payload).trans ?_
    rw [second f payload, keyState, signer, idle, room]
    rcases refused with ⟨state, rfl⟩ | ⟨state, none, rfl⟩ | ⟨state, ⟨r, signs⟩, busy, rfl⟩
    · exact if_pos state
    · rw [if_neg (not_not_intro state), s.noticeSigner_eq_none b target none]
      rfl
    · rw [if_neg (not_not_intro state), (s.noticeSigner_eq_some b target r).2 signs, Option.elim_some]
      by_cases free : s.fusesIdle = true
      · have full : 6 ≤ s.jobs.length := by
          obtain ⟨fuseOp, reserved⟩ := s.fusesIdle_iff.1 free
          rcases busy with e | e | e
          · exact absurd fuseOp e
          · rw [reserved] at e; cases e
          · exact e
        rw [if_neg (by rw [free]; exact nofun), if_pos (by rw [s.queueRoom_eq_false.2 full]; rfl)]
        rfl
      · rw [if_pos (by rw [Bool.not_eq_true] at free; rw [free]; rfl)]
        rfl
  · intro target r named state signs fuseOp reserved
    have accepted (few : s.jobs.length < 6) (f : Frame) (payload : f.payload = a :: b :: sig) :
        takeKeyRevoke l f (s.taking l) =
          serve ((s.taking l).acceptNotice l target r sig) .accepted [byteOf target] := by
      have signature : slice f.payload 2 64 = sig := by
        rw [payload]
        exact List.take_of_length_le signed.le
      refine (answers target named f payload).trans ?_
      rw [second f payload, keyState, signer, idle, room, if_neg (not_not_intro state),
        (s.noticeSigner_eq_some b target r).2 signs, Option.elim_some,
        if_neg (by rw [s.fusesIdle_iff.2 ⟨fuseOp, reserved⟩]; exact nofun),
        if_neg (by rw [s.queueRoom_iff.2 few]; exact nofun), signature]
    refine ⟨fun few working => ?_, fun empty resting => ?_⟩
    · refine exec_served (k := .keyRevoke) (payload := a :: b :: sig)
        { s with reserved := true, revoking := some target, jobs := s.jobs ++ [.revoke l target r sig] }
        (rest.same rfl rfl rfl rfl) (by cases l <;> exact ready.entry) ready fits size fun f payload =>
        (accepted few f payload).trans ?_
      rw [State.acceptNotice, State.placeJob_busy _ (by simpa using working)]
      cases l <;> rfl
    · refine exec_served (k := .keyRevoke) (payload := a :: b :: sig)
        { s with
          reserved := true, revoking := some target
          active := some (.revoke l target r
            ([0x52, 0x45, 0x56, 0x4B, byteOf target] ++ s.rom.serial.toList)
            s.rom.roots[r].key.toList sig) }
        (rest.same rfl rfl rfl rfl) (by cases l <;> exact ready.entry) ready fits size fun f payload =>
        (accepted (by rw [empty]; exact Nat.zero_lt_succ 5) f payload).trans ?_
      rw [State.acceptNotice, State.placeJob_idle (by simpa using resting) (by simpa using empty)
        (fun _ _ e => by cases e),
        State.startedJob_revoke]
      cases l <;> rfl

end Sys2Proof
end

section
/-! SUPPORT. The manifest checks, and MAN_CLOSE of a good manifest (R9 to R15). -/

namespace Sys2Proof.Machine

/-- What a good manifest's key has passed (R12). -/
theorem State.keyChecks_eq_none {s : State} {c : Fin 8} {h : Head} {k : Fin 10}
    (good : s.keyChecks c h k = none) :
    s.keyState k = .active ∧ (s.roleMask k).getLsbD c = true ∧ s.floor c ≤ epochOf h.version := by
  unfold State.keyChecks at good
  split_ifs at good with empty revoked role below
  refine ⟨?_, by simpa using role, Nat.not_lt.1 below⟩
  cases state : s.keyState k with
  | empty => exact absurd state empty
  | active => rfl
  | revoked =>
    rw [State.keyState, if_neg revoked] at state
    split at state
    · cases state
    · split at state <;> cases state

theorem State.manifestChecks_key {s : State} {c : Fin 8} {buffer : List Byte} {p : Parsed}
    (good : s.manifestChecks c buffer = .ok p) : s.keyState p.key = .active := by
  simp only [State.manifestChecks] at good
  split at good
  · cases good
  · split at good
    · cases good
    · split at good
      · cases good
      · split at good
        · cases good
        · split at good
          · cases good
          next passes =>
            obtain rfl := Except.ok.inj good
            exact (State.keyChecks_eq_none passes).1

/-! ### MAN_CLOSE -/

section
variable {s : State} (mode : s.mode = .verify ∨ s.mode = .settled) (l : Link) {f : Frame}
include mode

theorem takeManClose_badIndex (above : 11 < (byteAt f.payload 0).toNat) :
    takeManClose l f s = serve s .badIndex [0, 0, 0] := by
  have absent : index? 12 (byteAt f.payload 0).toNat = none := index?_eq_none above
  simp only [takeManClose, (s.slotMode_iff).2 mode, absent]
  rfl

variable {i : Fin 12} (payload : f.payload = [byteOf i])
include payload

theorem takeManClose_slot : takeManClose l f s =
    if s.slots[i].ownedBy l = false then serve s .notOwner [0, 0, 0]
    else if s.slots[i].state ≠ .loading then serve s .slotState [0, 0, 0]
    else s.closeManifest i (s.slots[i].cls.getD 0) := by
  have named : index? 12 (byteAt f.payload 0).toNat = some i := by
    rw [payload, byteAt_zero_cons, index?_byteOf i (by decide)]
  simp only [takeManClose, (s.slotMode_iff).2 mode, named, Bool.not_eq_true', Bool.not_true,
    Bool.false_eq_true, if_false]
  rfl

theorem takeManClose_loading {c : Fin 8} (state : s.slots[i].state = .loading)
    (owner : s.slots[i].owner = some l) (cls : s.slots[i].cls = some c) :
    takeManClose l f s = s.closeManifest i c := by
  have owned : ¬s.slots[i].ownedBy l = false := fun e => ((Slot.ownedBy_eq_false _ l).1 e).2 owner
  rw [takeManClose_slot mode l payload, if_neg owned, if_neg (not_not_intro state), cls]
  rfl

end

theorem State.closeManifest_good {s : State} {i : Fin 12} {c : Fin 8} {p : Parsed}
    (good : s.manifestChecks c s.slots[i].buffer = .ok p) :
    s.closeManifest i c = if s.queueRoom = true then
        serve ((s.setSlot i (s.slots[i].closedWith p)).placeJob (.manifest i s.slots[i].gen)) .accepted
          (leBytes 2 p.segCount ++ [byteOf p.epoch])
      else serve s .retryLater [0, 0, 0] := by
  simp only [State.closeManifest, good]
  rfl

theorem State.closeManifest_bad {s : State} {i : Fin 12} {c : Fin 8} {e : CheckFailure}
    (bad : s.manifestChecks c s.slots[i].buffer = .error e) :
    s.closeManifest i c = serve (s.conclude (s.reject i e.code none e.key e.detail)) (.rejects e.code)
      [0, 0, 0] := by
  simp only [State.closeManifest, bad]
  rfl

/-- The inputs of a manifest job as it starts (R63). -/
theorem State.startedJob_manifest {s : State} {i : Fin 12} {p : Parsed}
    (parsed : s.slots[i].parsed = some p) (g : Byte) : s.startedJob (.manifest i g) =
      .manifest i g (s.slots[i].buffer.take (48 + 32 * p.segCount)) (s.keyBytes p.key)
        (slice s.slots[i].buffer (48 + 32 * p.segCount) 64) := by
  simp only [State.startedJob, Slot.signedBytes, Slot.signatureBytes, Slot.keyIndex, parsed]
  rfl

theorem State.slotKeyRevoked_eq_false {s : State} {i : Fin 12} {p : Parsed}
    (parsed : s.slots[i].parsed = some p) (key : s.keyState p.key ≠ .revoked) :
    s.slotKeyRevoked i = false := by
  simp only [State.slotKeyRevoked, Slot.keyIndex, parsed]
  exact beq_eq_false_iff_ne.2 key

end Sys2Proof.Machine

namespace Sys2Proof
open Machine

/-- Settles O14: the refusals in order; a good manifest's slot is closed and its job placed, its key being
ACTIVE. -/
theorem manCloseQueuesJob : Obligations.ManCloseQueuesJob := by
  intro s l tag rest ready mode
  have taken : (s.taking l).mode = .verify ∨ (s.taking l).mode = .settled := by simpa using mode
  have answers (i : Fin 12) (f : Frame) (payload : f.payload = [byteOf i]) :=
    takeManClose_slot (s := s.taking l) taken l payload
  simp only [State.taking_slots] at answers
  refine ⟨fun b above => ?_, fun i => ⟨fun claimed other => ?_, fun owned state => ?_, fun c p state owner
    cls good => ⟨fun full => ?_, fun few working => ?_, fun empty resting => ?_⟩⟩⟩
  · exact exec_replied (k := .manClose) rest ready (Nat.le_add_left 1 _) rfl fun f payload =>
      takeManClose_badIndex taken l (by rw [payload]; exact above)
  · exact exec_replied (k := .manClose) rest ready (Nat.le_add_left 1 _) rfl fun f payload =>
      (answers i f payload).trans (if_pos ((Slot.ownedBy_eq_false _ l).2 ⟨claimed, other⟩))
  · refine exec_replied (k := .manClose) rest ready (Nat.le_add_left 1 _) rfl fun f payload =>
      (answers i f payload).trans ((if_neg fun e => ?_).trans (if_pos state))
    obtain ⟨claimed, other⟩ := (Slot.ownedBy_eq_false _ l).1 e
    exact owned.elim claimed other
  all_goals
    have checks : (s.taking l).manifestChecks c s.slots[i].buffer = .ok p := by
      rw [← good]
      cases l <;> rfl
    have closes (f : Frame) (payload : f.payload = [byteOf i]) :
        takeManClose l f (s.taking l) = if s.queueRoom = true then
          serve (((s.taking l).setSlot i (s.slots[i].closedWith p)).placeJob
            (.manifest i s.slots[i].gen)) .accepted (leBytes 2 p.segCount ++ [byteOf p.epoch])
          else serve (s.taking l) .retryLater [0, 0, 0] := by
      have closed := State.closeManifest_good (s := s.taking l) (i := i) (c := c) (p := p)
        (by rw [State.taking_slots]; exact checks)
      have room : (s.taking l).queueRoom = s.queueRoom := by cases l <;> rfl
      rw [State.taking_slots, room] at closed
      rw [takeManClose_loading taken l payload (c := c) (by simpa using state) (by simpa using owner)
        (by simpa using cls), closed]
  · exact exec_replied (k := .manClose) rest ready (Nat.le_add_left 1 _) rfl fun f payload =>
      (closes f payload).trans (if_neg (by rw [s.queueRoom_iff]; omega))
  · refine exec_served (k := .manClose) (payload := [byteOf i])
      { s with
        slots := put s.slots i (s.slots[i].closedWith p)
        jobs := s.jobs ++ [.manifest i s.slots[i].gen] }
      (rest.same rfl rfl rfl rfl) (by cases l <;> exact ready.entry) ready (Nat.le_add_left 1 _) rfl
      fun f payload => (closes f payload).trans ((if_pos (s.queueRoom_iff.2 few)).trans ?_)
    rw [State.placeJob_busy _ (by simpa [State.setSlot] using working)]
    cases l <;> rfl
  · have parsed : (s.setSlot i (s.slots[i].closedWith p)).slots[i].parsed = some p := by
      rw [State.setSlot_slots, put_fin_self]
      rfl
    refine exec_served (k := .manClose) (payload := [byteOf i])
      { s with
        slots := put s.slots i (s.slots[i].closedWith p)
        active := some (.manifest i s.slots[i].gen
          (s.slots[i].buffer.take (48 + 32 * p.segCount)) (s.keyBytes p.key)
          (slice s.slots[i].buffer (48 + 32 * p.segCount) 64)) }
      (rest.same rfl rfl rfl rfl) (by cases l <;> exact ready.entry) ready (Nat.le_add_left 1 _) rfl
      fun f payload => (closes f payload).trans
        ((if_pos (s.queueRoom_iff.2 (by rw [empty]; exact Nat.zero_lt_succ 5))).trans ?_)
    have started : (s.setSlot i (s.slots[i].closedWith p)).startedJob (.manifest i s.slots[i].gen) =
        .manifest i s.slots[i].gen (s.slots[i].buffer.take (48 + 32 * p.segCount)) (s.keyBytes p.key)
          (slice s.slots[i].buffer (48 + 32 * p.segCount) 64) := by
      rw [State.startedJob_manifest parsed]
      rw [State.setSlot_slots, put_fin_self]
      rfl
    have sameJob : ((s.taking l).setSlot i (s.slots[i].closedWith p)).startedJob
        (.manifest i s.slots[i].gen) = (s.setSlot i (s.slots[i].closedWith p)).startedJob
        (.manifest i s.slots[i].gen) := by cases l <;> rfl
    have unrevoked : ((s.taking l).setSlot i (s.slots[i].closedWith p)).slotKeyRevoked i = false := by
      have here : (s.setSlot i (s.slots[i].closedWith p)).slotKeyRevoked i = false :=
        State.slotKeyRevoked_eq_false parsed (by
          have active := State.manifestChecks_key good
          intro revoked
          cases active.symm.trans revoked)
      rw [← here]
      cases l <;> rfl
    rw [State.placeJob_idle (by simpa [State.setSlot] using resting)
      (by simpa [State.setSlot] using empty) (fun j g e => by cases e; exact unrevoked), sameJob, started]
    cases l <;> rfl

end Sys2Proof
end

section
/-! SUPPORT. The seven manifest checks, each by what fails it (R9 to R12, R26, R30, R32). -/

namespace Sys2Proof.Machine

theorem State.keyState_revoked (s : State) (k : Fin 10) :
    s.keyState k = .revoked ↔ s.revokeBurnt k = true := by
  unfold State.keyState
  split
  next revoked => exact ⟨fun _ => revoked, fun _ => rfl⟩
  next kept =>
    refine ⟨fun state => ?_, fun revoked => absurd revoked kept⟩
    split at state
    · cases state
    · split at state <;> cases state

section
variable {s : State} {c : Fin 8} {b : List Byte}

theorem State.manifestChecks_badHeader (long : 48 ≤ b.length) (header : headerOk (readHead b) = false) :
    s.manifestChecks c b = .error ⟨.badHeader, none, leBytes 2 b.length⟩ := if_pos ⟨long, header⟩

theorem State.manifestChecks_badFormat (header : 48 ≤ b.length → headerOk (readHead b) = true)
    (format : b.length < 48 ∨ byteAt b 6 ≠ 1) :
    s.manifestChecks c b = .error ⟨.badFormat, none, leBytes 2 b.length⟩ := by
  refine (if_neg ?_).trans (if_pos format)
  rintro ⟨long, bad⟩
  rw [header long] at bad
  cases bad

variable (long : 48 ≤ b.length) (header : headerOk (readHead b) = true) (format : byteAt b 6 = 1)
include long header format

/-- Behind checks 1 and 2 the geometry is checked, and then the key (R11, R12). -/
theorem State.manifestChecks_eq : s.manifestChecks c b =
    if geometryOk (readHead b) b.length c = false then
      .error ⟨.badGeometry, none,
        byteAt b 14 :: (leBytes 2 (readHead b).segCount ++ leBytes 4 (readHead b).imageLen)⟩
    else (index? 10 (byteAt b 18).toNat).elim (.error ⟨.badKey, none, []⟩) fun k =>
      (s.keyChecks c (readHead b) k).elim (.ok (parsedOf (readHead b) k)) .error := by
  have exponent : byteOf (readHead b).exponent = byteAt b 14 := BitVec.ofNat_toNat ..
  have formatted : (readHead b).format = 1 := format
  have key : (readHead b).key = (byteAt b 18).toNat := rfl
  rw [State.manifestChecks, if_neg (by rw [header]; exact fun e => nomatch e.2), if_neg (by
    rw [formatted]
    exact fun e => e.elim (Nat.not_lt.2 long) fun ne => ne rfl), exponent, key]
  split
  · rfl
  · cases index? 10 (byteAt b 18).toNat with
    | none => rfl
    | some k =>
      dsimp only [Option.elim_some]
      cases s.keyChecks c (readHead b) k <;> rfl

variable (geometry : geometryOk (readHead b) b.length c = true)
include geometry

theorem State.manifestChecks_noKey (above : 9 < (byteAt b 18).toNat) :
    s.manifestChecks c b = .error ⟨.badKey, none, []⟩ := by
  rw [State.manifestChecks_eq long header format, if_neg (by rw [geometry]; exact nofun),
    index?_eq_none above, Option.elim_none]

theorem State.manifestChecks_onKey {k : Fin 10} (named : (byteAt b 18).toNat = k.val) :
    s.manifestChecks c b =
      (s.keyChecks c (readHead b) k).elim (.ok (parsedOf (readHead b) k)) .error := by
  rw [State.manifestChecks_eq long header format, if_neg (by rw [geometry]; exact nofun), named,
    index?_val, Option.elim_some]

end

/-! ### The checks on a key, in their order (R12, R32) -/

section
variable {s : State} {c : Fin 8} {h : Head} {k : Fin 10}

theorem State.keyChecks_empty (state : s.keyState k = .empty) :
    s.keyChecks c h k = some ⟨.badKey, some k, []⟩ := if_pos state

theorem State.keyChecks_revoked (state : s.keyState k = .revoked) :
    s.keyChecks c h k = some ⟨.keyRevoked, some k, []⟩ :=
  (if_neg (by rw [state]; exact nofun)).trans (if_pos ((s.keyState_revoked k).1 state))

variable (state : s.keyState k = .active)
include state

theorem State.keyChecks_active : s.keyChecks c h k =
    if (s.roleMask k).getLsbD c = false then some ⟨.keyRole, some k, []⟩
    else if epochOf h.version < s.floor c then
      some ⟨.rollback, none, [byteOf (epochOf h.version), byteOf (s.floor c)]⟩
    else none := by
  have kept : ¬s.revokeBurnt k = true := by
    rw [← s.keyState_revoked, state]
    exact nofun
  rw [State.keyChecks, if_neg (by rw [state]; exact nofun), if_neg kept]
  simp only [Bool.not_eq_true']

end

/-- The identifier sequence of a manifest, read in its bytes (R10). -/
theorem headerOk_readHead (b : List Byte) : headerOk (readHead b) = true ↔
    byteAt b 0 = 0x01 ∧ byteAt b 5 = 0x02 ∧ classTag (byteAt b 7).toNat = some (slice b 1 4) := by
  rw [headerOk, Bool.and_eq_true, Bool.and_eq_true, beq_iff_eq, beq_iff_eq, beq_iff_eq, and_assoc]
  rfl

/-- The geometry of a manifest, read in its bytes (R11, R26). -/
theorem geometryOk_readHead (b : List Byte) (c : Fin 8) :
    geometryOk (readHead b) b.length c = true ↔
      12 ≤ (byteAt b 14).toNat ∧ (byteAt b 14).toNat ≤ 16 ∧ 1 ≤ leNat (slice b 10 4) ∧
      leNat (slice b 10 4) ≤ 16777216 ∧
      leNat (slice b 16 2) =
        (leNat (slice b 10 4) + 2 ^ (byteAt b 14).toNat - 1) / 2 ^ (byteAt b 14).toNat ∧
      leNat (slice b 16 2) ≤ 256 ∧ b.length = 112 + 32 * leNat (slice b 16 2) ∧
      (byteAt b 7).toNat = c.val := decide_eq_true_iff

end Sys2Proof.Machine

namespace Sys2Proof
open Machine

/-- Settles O13: each clause fails one check and passes those before it, and the last passes them all. -/
theorem manifestChecksInOrder : Obligations.ManifestChecksInOrder := by
  intro s c b failure k L N E header geometry clauses
  have fails {e : CheckFailure} (failed : s.manifestChecks c b = .error e) (named : failure = some e) :
      match s.manifestChecks c b with
      | .error e => failure = some e
      | .ok p => failure = none ∧ p.version = leNat (slice b 8 2) ∧ p.epoch = E ∧ p.imageLen = L ∧
          p.exponent = k ∧ p.segCount = N ∧ p.flags = byteAt b 15 &&& 1 ∧
          p.key.val = (byteAt b 18).toNat ∧ p.label = slice b 20 28 := by
    rw [failed]
    exact named
  have sequence : headerOk (readHead b) = true ↔ header := headerOk_readHead b
  have shape : geometryOk (readHead b) b.length c = true ↔ geometry := geometryOk_readHead b c
  rcases clauses with ⟨long, bad, named⟩ | ⟨good, format, named⟩ | ⟨long, good, format, clauses⟩
  · exact fails (State.manifestChecks_badHeader long (by rwa [← Bool.not_eq_true, sequence])) named
  · exact fails (State.manifestChecks_badFormat (fun h => sequence.2 (good h)) format) named
  have good := sequence.2 good
  rcases clauses with ⟨bad, named⟩ | ⟨fits, above, named⟩ | ⟨fits, key, index, clauses⟩
  · refine fails ?_ named
    rw [State.manifestChecks_eq long good format, if_pos (by rwa [← Bool.not_eq_true, shape])]
    rfl
  · exact fails (State.manifestChecks_noKey long good format (shape.2 fits) above) named
  have onKey := State.manifestChecks_onKey (s := s) long good format (shape.2 fits) index
  have byKey {e : CheckFailure} (failed : s.keyChecks c (readHead b) key = some e)
      (named : failure = some e) := fails (by rw [onKey, failed]; rfl) named
  rcases clauses with ⟨state, named⟩ | ⟨state, named⟩ | ⟨state, role, named⟩ |
    ⟨state, role, below, named⟩ | ⟨state, role, above, named⟩
  · exact byKey (State.keyChecks_empty state) named
  · exact byKey (State.keyChecks_revoked state) named
  · exact byKey (by rw [State.keyChecks_active state, if_pos role]) named
  · refine byKey ?_ named
    rw [State.keyChecks_active state, if_neg (by rw [role]; exact nofun)]
    exact if_pos below
  · have passes : s.keyChecks c (readHead b) key = none := by
      rw [State.keyChecks_active state, if_neg (by rw [role]; exact nofun)]
      exact if_neg (Nat.not_lt.2 above)
    rw [onKey, passes]
    exact ⟨named, rfl, rfl, rfl, rfl, rfl, rfl, index.symm, rfl⟩

end Sys2Proof
end

section
/-! SUPPORT. SLOT_QUERY, and marks packed into bytes (R24, Table 11-11). -/

namespace Sys2Proof.Machine

/-! ### Marks packed into bytes -/

/-- The number with bit `i` set for each `i` below `n` that passes a test. -/
def markedBits (p : Nat → Bool) (n : Nat) : Nat :=
  (List.range n).foldl (fun acc i => if p i then acc + 2 ^ i else acc) 0

theorem markedBits_succ (p : Nat → Bool) (n : Nat) :
    markedBits p (n + 1) = if p n then markedBits p n + 2 ^ n else markedBits p n := by
  rw [markedBits, List.range_succ, List.foldl_append]
  rfl

theorem markedBits_lt (p : Nat → Bool) (n : Nat) : markedBits p n < 2 ^ n := by
  induction n with
  | zero => exact Nat.one_pos
  | succ n ih =>
    rw [markedBits_succ, Nat.pow_succ]
    split <;> omega

theorem markedBits_testBit (p : Nat → Bool) {n i : Nat} (below : i < n) :
    (markedBits p n).testBit i = p i := by
  induction n with
  | zero => omega
  | succ n ih =>
    have low := markedBits_lt p n
    rw [markedBits_succ]
    rcases Nat.lt_succ_iff_lt_or_eq.1 below with earlier | rfl
    · split
      · rw [Nat.add_comm, Nat.testBit_two_pow_add_gt earlier, ih earlier]
      · exact ih earlier
    · have unset : (markedBits p i).testBit i = false := Nat.testBit_lt_two_pow low
      split
      next set => rw [Nat.add_comm, Nat.testBit_two_pow_add_eq, unset, set]; rfl
      next clear => rw [unset, Bool.eq_false_iff.2 clear]

/-- Mark `i` of eight is bit `i` of their byte. -/
theorem packByte_getLsbD (marks : List Bool) {i : Nat} (below : i < 8) :
    (packByte marks).getLsbD i = marks.getD i false := by
  rw [packByte, byteOf, BitVec.getLsbD_ofNat, decide_eq_true below, Bool.true_and]
  exact markedBits_testBit (fun j => marks.getD j false) below

theorem packBits_length (n : Nat) (marks : List Bool) : (packBits n marks).length = n := by
  induction n generalizing marks with
  | zero => rfl
  | succ n ih => rw [packBits, List.length_cons, ih]

/-- Mark `j` is bit `j` mod 8 of byte `j` div 8 (Table 11-11). -/
theorem packBits_getLsbD {n : Nat} (marks : List Bool) {j : Nat} (below : j < 8 * n) :
    (byteAt (packBits n marks) (j / 8)).getLsbD (j % 8) = marks.getD j false := by
  induction n generalizing marks j with
  | zero => omega
  | succ n ih =>
    rcases Nat.lt_or_ge j 8 with first | later
    · have byte : byteAt (packBits (n + 1) marks) 0 = packByte (marks.take 8) := rfl
      rw [Nat.div_eq_of_lt first, Nat.mod_eq_of_lt first, byte, packByte_getLsbD _ first]
      simp [first]
    · obtain ⟨m, rfl⟩ := Nat.exists_eq_add_of_le later
      have byte : byteAt (packBits (n + 1) marks) (m / 8 + 1) =
        byteAt (packBits n (marks.drop 8)) (m / 8) := rfl
      rw [show (8 + m) / 8 = m / 8 + 1 by omega, Nat.add_mod_left, byte, ih _ (by omega)]
      simp

/-! ### SLOT_QUERY -/

section
variable {s : State} (mode : s.mode = .verify ∨ s.mode = .settled) (l : Link) {f : Frame} {b : Byte}
  (payload : f.payload = [b])
include mode payload

theorem takeSlotQuery_badIndex (above : 11 < b.toNat) :
    takeSlotQuery l f s = serve s .badIndex (List.replicate 88 0) := by
  have absent : index? 12 (byteAt [b] 0).toNat = none := index?_eq_none above
  rw [takeSlotQuery, payload, absent, s.slotMode_iff.2 mode]
  rfl

theorem takeSlotQuery_slot {i : Fin 12} (named : b = byteOf i) :
    takeSlotQuery l f s = serve s .ok (slotQueryPayload s.slots[i]) := by
  have found : index? 12 (byteAt [b] 0).toNat = some i := by
    rw [byteAt_zero_cons, named, index?_byteOf i (by decide)]
  rw [takeSlotQuery, payload, found, s.slotMode_iff.2 mode]
  rfl

end

theorem parsedBytes_length (p : Option Parsed) : (parsedBytes p).length = 40 := by
  cases p <;> simp [parsedBytes, leBytes, zeros]

/-- The byte of a SLOT_QUERY reply that marks which of the slot's optional fields are present. -/
def Slot.presence (x : Slot) : Byte :=
  flagByte x.cls.isSome ||| (flagByte x.parsed.isSome <<< 1) ||| (flagByte x.reason.isSome <<< 2)

theorem Slot.presence_getLsbD (x : Slot) : x.presence.getLsbD 0 = x.cls.isSome ∧
    x.presence.getLsbD 1 = x.parsed.isSome ∧ x.presence.getLsbD 2 = x.reason.isSome := by
  simp [Slot.presence, flagByte_getElem]

/-- The fields of Table 11-11 in their order. -/
def slotBlocks (x : Slot) : List (List Byte) :=
  [[slotStateCode x.state, x.gen], leBytes 2 x.buffer.length,
   [x.presence, (x.cls.map fun c : Fin 8 => byteOf c.val).getD 0, (x.owner.map linkCode).getD 0],
   parsedBytes x.parsed, leBytes 2 (matchedCount x.segMap), packBits 32 x.segMap,
   [sigCode x.sig, (x.reason.map faultCode).getD 0, byteOf x.openCtxs.length],
   padTo 4 (x.openCtxs.map fun o : Fin 4 => byteOf o.val)]

theorem slotQueryPayload_eq_flatten (x : Slot) : slotQueryPayload x = (slotBlocks x).flatten := by
  have cls : ((x.cls.bind fun c => some c.val).map fun c => byteOf c) =
      x.cls.map fun c : Fin 8 => byteOf c.val := by cases x.cls <;> rfl
  have ctxs : ((x.openCtxs.flatMap fun o => [o.val]).map fun o => byteOf o) =
      x.openCtxs.map fun o : Fin 4 => byteOf o.val := by
    induction x.openCtxs with
    | nil => rfl
    | cons o rest ih => exact congrArg (byteOf o.val :: ·) ih
  simp only [slotQueryPayload, slotBlocks, Slot.presence, ← cls, ← ctxs]
  simp

/-- A padded list is the list, with zeros after it. -/
theorem byteAt_padTo {n i : Nat} {bytes : List Byte} (below : i < n) :
    byteAt (padTo n bytes) i = byteAt bytes i := by
  rw [byteAt, byteAt, List.getD_eq_getElem?_getD, List.getD_eq_getElem?_getD, padTo,
    List.getElem?_take_of_lt below]
  rcases Nat.lt_or_ge i bytes.length with inside | past
  · rw [List.getElem?_append_left inside]
  · rw [List.getElem?_append_right past, List.getElem?_eq_none past, zeros, List.getElem?_replicate]
    split <;> rfl

end Sys2Proof.Machine

namespace Sys2Proof
open Machine

/-- Settles O16: the payload is the fields of Table 11-11 joined, each read at its place. -/
theorem slotQueryReports : Obligations.SlotQueryReports := by
  intro s l tag rest ready mode
  have mode : (s.taking l).mode = .verify ∨ (s.taking l).mode = .settled := by simpa using mode
  refine ⟨fun b above => ?_, fun i _ => ⟨slotQueryPayload s.slots[i], ?_, ?_⟩⟩
  · exact exec_replied (k := .slotQuery) rest ready (Nat.le_add_left 1 _) rfl fun f payload =>
      takeSlotQuery_badIndex mode l payload above
  · exact exec_replied (k := .slotQuery) rest ready (Nat.le_add_left 1 _) rfl fun f payload => by
      rw [← State.taking_slots s l]
      exact takeSlotQuery_slot mode l payload rfl
  generalize s.slots[i] = x
  have parsedLength := parsedBytes_length x.parsed
  have marksLength := packBits_length 32 x.segMap
  have total : (slotQueryPayload x).length = 88 := by
    simp [slotQueryPayload_eq_flatten, slotBlocks, leBytes, parsedLength, marksLength]
  rw [slotQueryPayload_eq_flatten] at total ⊢
  generalize whole : (slotBlocks x).flatten = p at total ⊢
  have block (j : Fin 8) := whole ▸ slice_flatten (slotBlocks x) j j.isLt
  have marks : slice p 4 3 =
    [x.presence, (x.cls.map fun c : Fin 8 => byteOf c.val).getD 0, (x.owner.map linkCode).getD 0] := block 2
  have parsed : slice p 7 40 = parsedBytes x.parsed := by
    simpa [slotBlocks, leBytes, parsedLength] using block 3
  have count : slice p 47 2 = leBytes 2 (matchedCount x.segMap) := by
    simpa [slotBlocks, leBytes, parsedLength] using block 4
  have map : slice p 49 32 = packBits 32 x.segMap := by
    simpa [slotBlocks, leBytes, parsedLength, marksLength] using block 5
  have ends : slice p 81 3 = [sigCode x.sig, (x.reason.map faultCode).getD 0, byteOf x.openCtxs.length] := by
    simpa [slotBlocks, leBytes, parsedLength, marksLength] using block 6
  have ctxs : slice p 84 4 = padTo 4 (x.openCtxs.map fun o : Fin 4 => byteOf o.val) := by
    simpa [slotBlocks, leBytes, parsedLength, marksLength] using block 7
  have mark : byteAt p 4 = x.presence := byteAt_of_slice marks (i := 0) (by decide)
  obtain ⟨cls, isParsed, reason⟩ := x.presence_getLsbD
  refine ⟨total, block 0, block 1, mark ▸ cls, mark ▸ isParsed, mark ▸ reason, ?_, ?_, fun absent => ?_,
    fun m present label => ?_, count, fun j => ?_, byteAt_of_slice ends (i := 0) (by decide), ?_,
    byteAt_of_slice ends (i := 2) (by decide), fun n => ?_⟩
  · refine (byteAt_of_slice marks (i := 1) (by decide)).trans ?_
    cases x.cls <;> rfl
  · refine (byteAt_of_slice marks (i := 2) (by decide)).trans ?_
    rcases x.owner with _ | _ | _ <;> rfl
  · rw [parsed, absent]
    rfl
  · rw [parsed, present, parsedBytes, padTo_of_le label.ge, List.take_of_length_le label.le]
  · rw [byteAt_of_slice map (by omega)]
    exact packBits_getLsbD x.segMap (by omega)
  · refine (byteAt_of_slice ends (i := 1) (by decide)).trans ?_
    cases x.reason <;> rfl
  · rw [byteAt_of_slice ctxs n.isLt, byteAt_padTo n.isLt, byteAt, List.getD_eq_getElem?_getD,
      List.getElem?_map]
    cases x.openCtxs[n.val]? <;> rfl

end Sys2Proof
end

section
/-! SUPPORT. SEG_OPEN and SEG_DATA (R41 to R47). -/

namespace Sys2Proof.Machine

/-! ### SEG_OPEN -/

theorem leNat_two {n : Nat} (small : n < 65536) : leNat (leBytes 2 n) = n :=
  (leNat_leBytes 2 n).trans (Nat.mod_eq_of_lt small)

section
variable {s : State} (mode : s.mode = .verify ∨ s.mode = .settled) (l : Link) {f : Frame} {j : Nat}
include mode

theorem takeSegOpen_badIndex (above : 11 < (byteAt f.payload 0).toNat) :
    takeSegOpen l f s = refuse .segOpen s .badIndex := by
  have absent : index? 12 (byteAt f.payload 0).toNat = none := index?_eq_none above
  rw [takeSegOpen, absent, s.slotMode_iff.2 mode]
  rfl

/-- The slot checks of SEG_OPEN, behind the slot index (R41). -/
theorem takeSegOpen_slot {i : Fin 12} (payload : f.payload = byteOf i :: leBytes 2 j) :
    takeSegOpen l f s =
      if s.slots[i].ownedBy l = false then refuse .segOpen s .notOwner
      else if s.slots[i].state ≠ .checking ∧ s.slots[i].state ≠ .signed then
        refuse .segOpen s .slotState
      else s.slots[i].parsed.elim (refuse .segOpen s .slotState) fun p =>
        s.openSegment i p (leNat (leBytes 2 j)) := by
  have named : index? 12 (byteAt f.payload 0).toNat = some i := by
    rw [payload, byteAt_zero_cons, index?_byteOf i (by decide)]
  have read : slice f.payload 1 2 = leBytes 2 j := by rw [payload]; rfl
  simp only [takeSegOpen, s.slotMode_iff.2 mode, named, read, Bool.not_eq_true', Bool.not_true,
    Bool.false_eq_true, if_false]
  cases s.slots[i].parsed <;> rfl

end

theorem State.segmentBusy_iff (s : State) (i : Fin 12) (j : Nat) : s.segmentBusy i j = true ↔
    ∃ y : Fin 4, ∃ claim, s.ctxs[y] = some claim ∧ claim.slot = i ∧ claim.seg = j := by
  rw [State.segmentBusy, List.any_eq_true]
  refine exists_congr fun y => ?_
  cases s.ctxs[y] <;> simp

theorem State.openSegment_taking (s : State) (l : Link) (i : Fin 12) (p : Parsed) (j : Nat) :
    (s.taking l).segmentRefusal i p j = s.segmentRefusal i p j ∧ (s.taking l).idleCtx = s.idleCtx := by
  cases l <;> exact ⟨rfl, rfl⟩

/-- What opening a segment answers where its checks or the contexts refuse it (R42, R43). -/
theorem State.openSegment_refused {s : State} {i : Fin 12} {p : Parsed} {j : Nat} {status : Status}
    (refused : s.segmentRefusal i p j = some status) :
    s.openSegment i p j = refuse .segOpen s status := by
  rw [State.openSegment, refused]

theorem State.openSegment_noContext {s : State} {i : Fin 12} {p : Parsed} {j : Nat}
    (accepted : s.segmentRefusal i p j = none) (full : s.idleCtx = none) :
    s.openSegment i p j = refuse .segOpen s .noContext := by
  rw [State.openSegment, accepted, full]

theorem State.openSegment_claims {s : State} {i : Fin 12} {p : Parsed} {j : Nat} {x : Fin 4}
    (accepted : s.segmentRefusal i p j = none) (idle : s.idleCtx = some x) :
    s.openSegment i p j =
      serve ((s.setCtx x (some (openedClaim i s.slots[i].gen p j))).setSlot i
        { s.slots[i] with openCtxs := s.slots[i].openCtxs ++ [x] }) .ok
        (byteOf x :: leBytes 4 (segmentLen p j)) := by
  rw [State.openSegment, accepted, idle]

end Sys2Proof.Machine

namespace Sys2Proof
open Machine

/-- Settles O18: the slot's checks, the segment's in the order of R42, and the lowest IDLE context. -/
theorem segOpenClaims : Obligations.SegOpenClaims := by
  intro s l tag rest ready mode
  have mode : (s.taking l).mode = .verify ∨ (s.taking l).mode = .settled := by simpa using mode
  have fits (b : Byte) (j : Nat) : (b :: leBytes 2 j).length ≤ 1038 := Nat.le_add_left 3 _
  have bySlot (i : Fin 12) (j : Nat) (f : Frame) (payload : f.payload = byteOf i :: leBytes 2 j) :=
    takeSegOpen_slot mode l payload
  simp only [State.taking_slots] at bySlot
  have refused (b : Byte) (j : Nat) (status : Status) (denied : ∀ f, f.payload = b :: leBytes 2 j →
      takeSegOpen l f (s.taking l) = refuse .segOpen (s.taking l) status) :
      exec (.segOpen l (goodRequest .segOpen tag (b :: leBytes 2 j))) s =
        .next (s.replied l (replyOf .segOpen tag status [0, 0, 0, 0, 0])) :=
    exec_replied (k := .segOpen) rest ready (fits b j) rfl denied
  refine ⟨fun b j above => ?_, fun i j claimed foreign => ?_, fun i j owned checking signed => ?_,
    fun i p j owner state parsed small => ?_⟩
  · exact refused b j _ fun f payload => takeSegOpen_badIndex mode l (by rw [payload]; exact above)
  · exact refused _ j _ fun f payload => by
      rw [bySlot i j f payload, if_pos ((Slot.ownedBy_eq_false _ l).2 ⟨claimed, foreign⟩)]
  · have owned : ¬s.slots[i].ownedBy l = false := fun h => by
      obtain ⟨claimed, foreign⟩ := (Slot.ownedBy_eq_false _ l).1 h
      exact owned.elim claimed foreign
    exact refused _ j _ fun f payload => by
      rw [bySlot i j f payload, if_neg owned, if_pos ⟨checking, signed⟩]
  have owned : ¬s.slots[i].ownedBy l = false := fun h => ((Slot.ownedBy_eq_false _ l).1 h).2 owner
  have open_ : ¬(s.slots[i].state ≠ .checking ∧ s.slots[i].state ≠ .signed) :=
    fun h => state.elim h.1 h.2
  have read : leNat (leBytes 2 j) = j := leNat_two small
  have answers (f : Frame) (payload : f.payload = byteOf i :: leBytes 2 j) :
      takeSegOpen l f (s.taking l) = (s.taking l).openSegment i p j := by
    rw [bySlot i j f payload, if_neg owned, if_neg open_, parsed, Option.elim_some, read]
  obtain ⟨checks, idle⟩ := State.openSegment_taking s l i p j
  have denied (status : Status) (h : s.segmentRefusal i p j = some status) :=
    refused (byteOf i) j status fun f payload => by
      rw [answers f payload, State.openSegment_refused (checks.trans h)]
  have accepted (inside : j < p.segCount) (unmatched : ¬s.slots[i].segMap.getD j false = true)
      (free : ¬∃ y : Fin 4, ∃ claim, s.ctxs[y] = some claim ∧ claim.slot = i ∧ claim.seg = j) :
      s.segmentRefusal i p j = none := by
    rw [State.segmentRefusal, if_neg inside.not_ge, if_neg unmatched,
      if_neg fun h => free ((s.segmentBusy_iff i j).1 h)]
  refine ⟨fun outside => ?_, fun inside matched => ?_, fun inside unmatched busy => ?_,
    fun inside unmatched free full => ?_, fun x inside unmatched free none lowest => ?_⟩
  · exact denied _ (if_pos outside)
  · exact denied _ ((if_neg inside.not_ge).trans (if_pos matched))
  · exact denied _ ((if_neg inside.not_ge).trans
      ((if_neg unmatched).trans (if_pos ((s.segmentBusy_iff i j).2 busy))))
  · exact refused _ j _ fun f payload => by
      rw [answers f payload, State.openSegment_noContext (checks.trans (accepted inside unmatched free))
        (idle.trans (State.idleCtx_eq_none full))]
  · refine exec_served (k := .segOpen)
      ((s.setCtx x (some (openedClaim i s.slots[i].gen p j))).setSlot i
        { s.slots[i] with openCtxs := s.slots[i].openCtxs ++ [x] })
      (rest.same rfl rfl rfl rfl) (by cases l <;> exact ready.entry) ready (fits _ _) rfl fun f payload => ?_
    refine (answers f payload).trans ((State.openSegment_claims
      (checks.trans (accepted inside unmatched free))
      (idle.trans (State.idleCtx_eq_some none lowest))).trans ?_)
    cases l <;> rfl

end Sys2Proof

namespace Sys2Proof.Machine

/-! ### SEG_DATA -/

/-- A byte that names an index was made of it. -/
theorem byteOf_of_index? {n : Nat} {b : Byte} {i : Fin n} (named : index? n b.toNat = some i) :
    b = byteOf i := by
  unfold index? at named
  split at named
  · cases named
    exact (BitVec.ofNat_toNat 8 b).symm
  · cases named

section
variable {s : State} {a b gen : Byte} {seg : Nat} (small : seg < 65536) (data : List Byte)

include small in
theorem leNat_slice_claim : leNat (slice ([a, b, gen] ++ leBytes 2 seg ++ data) 3 2) = seg := by
  have at_three : slice ([a, b, gen] ++ leBytes 2 seg ++ data) 3 2 = leBytes 2 seg := rfl
  rw [at_three, leNat_two small]

include small in
/-- What a named claim agrees with (R44). -/
theorem State.namedClaim_names {x : Fin 4} {c : Claim}
    (h : s.namedClaim ([a, b, gen] ++ leBytes 2 seg ++ data) = some (x, c)) :
    a = byteOf x ∧ s.ctxs[x] = some c ∧ b = byteOf c.slot ∧ gen = c.gen ∧ seg = c.seg := by
  have read := leNat_slice_claim (a := a) (b := b) (gen := gen) small data
  unfold State.namedClaim at h
  split at h
  next x' i ctx slot =>
    split at h
    next c' claimed =>
      split at h
      next agrees =>
        cases h
        obtain ⟨rfl, same, segment⟩ := agrees
        exact ⟨byteOf_of_index? ctx, claimed, byteOf_of_index? slot, same.symm,
          (segment.trans read).symm⟩
      next => cases h
    next => cases h
  next => cases h

include small in
theorem State.namedClaim_eq_none
    (other : ∀ (x : Fin 4) (claim : Claim), a = byteOf x → s.ctxs[x] = some claim →
      ¬(b = byteOf claim.slot ∧ gen = claim.gen ∧ seg = claim.seg)) :
    s.namedClaim ([a, b, gen] ++ leBytes 2 seg ++ data) = none := by
  refine Option.eq_none_iff_forall_ne_some.2 fun ⟨x, c⟩ h => ?_
  obtain ⟨ctx, claimed, agrees⟩ := State.namedClaim_names small data h
  exact other x c ctx claimed agrees

end

/-- The claim that SEG_DATA and SEG_CLOSE name by its context, slot, generation and segment (R44). -/
theorem State.namedClaim_eq_some {s : State} (data : List Byte) {x : Fin 4} {c : Claim} (claimed : s.ctxs[x] = some c)
    (inWire : c.seg < 65536) :
    s.namedClaim ([byteOf x, byteOf c.slot, c.gen] ++ leBytes 2 c.seg ++ data) = some (x, c) := by
  have ctx : index? 4 (byteOf x).toNat = some x := index?_byteOf x (by decide)
  have slot : index? 12 (byteOf c.slot).toNat = some c.slot := index?_byteOf c.slot (by decide)
  have read := leNat_slice_claim (a := byteOf x) (b := byteOf c.slot) (gen := c.gen) inWire data
  have bytes : byteAt ([byteOf x, byteOf c.slot, c.gen] ++ leBytes 2 c.seg ++ data) 0 = byteOf x ∧
    byteAt ([byteOf x, byteOf c.slot, c.gen] ++ leBytes 2 c.seg ++ data) 1 = byteOf c.slot ∧
    byteAt ([byteOf x, byteOf c.slot, c.gen] ++ leBytes 2 c.seg ++ data) 2 = c.gen := ⟨rfl, rfl, rfl⟩
  obtain ⟨first, second, third⟩ := bytes
  simp only [State.namedClaim, first, second, third, read, ctx, slot, claimed, and_self, if_true]

theorem State.namedClaim_taking (s : State) (l : Link) (payload : List Byte) :
    (s.taking l).namedClaim payload = s.namedClaim payload := by cases l <;> rfl

section
variable {s : State} (mode : s.mode = .verify ∨ s.mode = .settled) (l : Link) {f : Frame}
include mode

theorem takeSegData_badIndex (none : s.namedClaim f.payload = none) :
    takeSegData l f s = refuse .segData s .badIndex := by
  rw [takeSegData, none, s.slotMode_iff.2 mode]
  rfl

/-- SEG_DATA on a standing claim (R44 to R47). -/
theorem takeSegData_claim {x : Fin 4} {c : Claim} {offset : Nat} {data : List Byte}
    (named : s.namedClaim f.payload = some (x, c)) (at_ : leNat (slice f.payload 5 2) = offset)
    (rest : f.payload.drop 7 = data) :
    takeSegData l f s =
      if s.claimOwnedBy c l = false then serve s .notOwner (leBytes 4 c.received)
      else (segDataRefusal c offset data).elim
        (if 8 ≤ s.chunkQueue.length then serve s .retryLater (leBytes 4 c.received)
          else serve (s.acceptChunk x c data) .ok (leBytes 4 (c.received + data.length)))
        fun status => serve s status (leBytes 4 c.received) := by
  simp only [takeSegData, s.slotMode_iff.2 mode, named, at_, rest, Bool.not_eq_true', Bool.not_true,
    Bool.false_eq_true, if_false]
  cases segDataRefusal c offset data <;> rfl

end

/-- An accepted chunk joins the queue, whose oldest an idle core takes (R39, R46). -/
theorem State.acceptChunk_eq (s : State) (x : Fin 4) (c : Claim) (data : List Byte) :
    s.acceptChunk x c data =
      let queue := s.chunkQueue ++
        [{ ctx := x, slot := c.slot, gen := c.gen, offset := c.received, data := data }]
      { s with
        ctxs := put s.ctxs x (some { c with received := c.received + data.length,
                                            pendingChunks := c.pendingChunks + 1 })
        core := if s.core = none then queue.head? else s.core
        chunkQueue := if s.core = none then queue.tail else queue } := by
  obtain ⟨ch, rest, cons⟩ : ∃ ch rest, s.chunkQueue ++
      [({ ctx := x, slot := c.slot, gen := c.gen, offset := c.received, data := data } : Chunk)] =
      ch :: rest := List.exists_cons_of_ne_nil (by simp)
  simp only [State.acceptChunk, State.setCtx, State.coreTake, cons]
  cases s.core <;> simp

end Sys2Proof.Machine

namespace Sys2Proof
open Machine

/-- Settles O19: the handler's checks are the statement's, in the same order. -/
theorem segDataQueuesChunk : Obligations.SegDataQueuesChunk := by
  intro s l tag offset data rest ready mode small fits
  have mode : (s.taking l).mode = .verify ∨ (s.taking l).mode = .settled := by simpa using mode
  set wire : Byte → Byte → Byte → Nat → List Byte := fun a b gen seg =>
    [a, b, gen] ++ leBytes 2 seg ++ leBytes 2 offset ++ data with hwire
  have length (a b gen : Byte) (seg : Nat) : (wire a b gen seg).length = 7 + data.length := by
    simp [hwire, leBytes]; omega
  have short (a b gen : Byte) (seg : Nat) : (wire a b gen seg).length ≤ 1038 := by rw [length]; omega
  have size (a b gen : Byte) (seg : Nat) : payloadSizeOk .segData (wire a b gen seg).length = true := by
    rw [length]
    exact decide_eq_true (Nat.le_add_right 7 _)
  have cut (a b gen : Byte) (seg : Nat) :
      wire a b gen seg = [a, b, gen] ++ leBytes 2 seg ++ (leBytes 2 offset ++ data) := by simp [hwire]
  refine ⟨fun a b gen seg inWire other => ?_, fun x claim claimed inWire => ?_⟩
  · refine exec_replied (k := .segData) rest ready (short a b gen seg) (size a b gen seg) fun f payload =>
      takeSegData_badIndex mode l ?_
    rw [payload, State.namedClaim_taking]
    refine (congrArg s.namedClaim (cut a b gen seg)).trans ?_
    exact State.namedClaim_eq_none inWire _ other
  have answers (f : Frame)
      (payload : f.payload = wire (byteOf x) (byteOf claim.slot) claim.gen claim.seg) :=
    takeSegData_claim (f := f) (x := x) (c := claim) (offset := offset) (data := data) mode l
      (by
        rw [payload, cut, State.namedClaim_taking]
        exact State.namedClaim_eq_some _ claimed inWire)
      (by
        have here : slice f.payload 5 2 = leBytes 2 offset := by rw [payload]; rfl
        rw [here, leNat_two small])
      (by rw [payload]; rfl)
  have refused (status : Status) (count : Nat) (denied : ∀ f,
      f.payload = wire (byteOf x) (byteOf claim.slot) claim.gen claim.seg →
      takeSegData l f (s.taking l) = serve (s.taking l) status (leBytes 4 count)) :
      exec (.segData l (goodRequest .segData tag
        (wire (byteOf x) (byteOf claim.slot) claim.gen claim.seg))) s =
        .next (s.replied l (replyOf .segData tag status (leBytes 4 count))) :=
    exec_replied (k := .segData) rest ready (short _ _ _ _) (size _ _ _ _) denied
  have owns : (s.taking l).claimOwnedBy claim l = (s.slots[claim.slot].owner == some l) := by
    rw [State.claimOwnedBy, State.taking_slots]
  dsimp only
  by_cases foreign : s.slots[claim.slot].owner ≠ some l
  · rw [if_pos foreign]
    exact refused _ _ fun f payload => by
      rw [answers f payload, owns, if_pos (beq_eq_false_iff_ne.2 foreign)]
  rw [if_neg foreign]
  have owned : ¬(s.taking l).claimOwnedBy claim l = false := by
    rw [owns]
    exact fun h => foreign (beq_eq_false_iff_ne.1 h)
  have byRefusal (status : Status) (denied : segDataRefusal claim offset data = some status) :=
    refused status claim.received fun f payload => by
      rw [answers f payload, if_neg owned, denied, Option.elim_some]
  by_cases draining : claim.draining = true
  · rw [if_pos draining]
    exact byRefusal _ (if_pos draining)
  rw [if_neg draining]
  by_cases sized : data.length = 0 ∨ 1024 < data.length
  · rw [if_pos sized]
    exact byRefusal _ ((if_neg draining).trans (if_pos (by omega)))
  rw [if_neg sized]
  have inBounds : ¬(data.length < 1 ∨ 1024 < data.length) := by omega
  by_cases place : offset ≠ claim.received
  · rw [if_pos place]
    exact byRefusal _ ((if_neg draining).trans ((if_neg inBounds).trans (if_pos place)))
  rw [if_neg place]
  by_cases past : claim.len < offset + data.length
  · rw [if_pos past]
    exact byRefusal _ ((if_neg draining).trans
      ((if_neg inBounds).trans ((if_neg place).trans (if_pos past))))
  rw [if_neg past]
  have accepted : segDataRefusal claim offset data = none :=
    (if_neg draining).trans ((if_neg inBounds).trans ((if_neg place).trans (if_neg past)))
  obtain rfl : offset = claim.received := not_not.1 place
  by_cases full : 8 ≤ s.chunkQueue.length
  · rw [if_pos full]
    exact refused _ _ fun f payload => by
      rw [answers f payload, if_neg owned, accepted, Option.elim_none, State.taking_chunkQueue,
        if_pos full]
  rw [if_neg full]
  have queued := State.acceptChunk_eq s x claim data
  dsimp only at queued
  rw [← queued]
  refine exec_served (k := .segData) (s.acceptChunk x claim data) ?_ ?_ ready (short _ _ _ _)
    (size _ _ _ _) fun f payload => ?_
  · rw [queued]
    exact rest.same rfl rfl rfl rfl
  · rw [queued]
    cases l <;> exact ready.entry
  · refine (answers f payload).trans ?_
    rw [if_neg owned, accepted, Option.elim_none, State.taking_chunkQueue, if_neg full,
      State.acceptChunk_eq, queued]
    cases l <;> rfl

end Sys2Proof
end

section
/-! SUPPORT. POLICY_SET and PROVISION_CLOSE (R145, R147, R148). -/

namespace Sys2Proof.Machine

/-! ### POLICY_SET -/

theorem dispositionOf_eq_none (b : Byte) : dispositionOf b = none ↔ 2 < b.toNat := by
  revert b
  decide +kernel

theorem dispositionCode_of_byte (b : Byte) : b.toNat ≤ 2 →
    dispositionCode ((dispositionOf b).getD .unused) = b := by
  revert b
  decide +kernel

theorem badDisposition_eq_some {b : List Byte} {c : Fin 8} (bad : 2 < (byteAt b c).toNat)
    (first : ∀ d : Fin 8, d < c → (byteAt b d).toNat ≤ 2) : badDisposition b = some c :=
  head?_indicesOf (Option.isNone_iff_eq_none.2 ((dispositionOf_eq_none _).2 bad)) fun d below =>
    Bool.eq_false_iff.2 fun none => (first d below).not_gt
      ((dispositionOf_eq_none _).1 (Option.isNone_iff_eq_none.1 none))

theorem badDisposition_eq_none {b : List Byte} (good : ∀ c : Fin 8, (byteAt b c).toNat ≤ 2) :
    badDisposition b = none :=
  head?_indicesOf_none fun c => Bool.eq_false_iff.2 fun none => (good c).not_gt
    ((dispositionOf_eq_none _).1 (Option.isNone_iff_eq_none.1 none))

theorem clampTo_toNat (limit b : Byte) : (clampTo limit b).toNat = min limit.toNat b.toNat := by
  rw [clampTo]
  split
  next above => exact (Nat.min_eq_left (BitVec.lt_def.1 above).le).symm
  next below => exact (Nat.min_eq_right (BitVec.not_lt.1 below)).symm

section
variable {s : State} (mode : s.mode = .provision) {f : Frame}
include mode

theorem takePolicySet_linkDenied : takePolicySet .e f s = refuse .policySet s .linkDenied := by
  rw [takePolicySet, if_neg (not_not_intro mode), if_pos rfl]

theorem takePolicySet_badIndex {c : Fin 8} (bad : badDisposition f.payload = some c) :
    takePolicySet .m f s = serve s .badIndex (byteOf c :: zeros 33) := by
  rw [takePolicySet, if_neg (not_not_intro mode), if_neg nofun, bad]

theorem takePolicySet_good (good : badDisposition f.payload = none) :
    takePolicySet .m f s =
      if s.fusesIdle = false then refuse .policySet s .retryLater
      else serve { s with staging := clampPolicy (policyOfBytes f.payload) } .ok
        (0 :: policyBytes (clampPolicy (policyOfBytes f.payload))) := by
  rw [takePolicySet, if_neg (not_not_intro mode), if_neg nofun, good]
  simp only [Bool.not_eq_true']

end

/-- The policy that 33 bytes with good dispositions are stored as (R145). -/
theorem clampPolicy_policyOfBytes {b : List Byte} (good : ∀ c : Fin 8, (byteAt b c).toNat ≤ 2) :
    let p := clampPolicy (policyOfBytes b)
    (∀ c : Fin 8, dispositionCode p.dispositions[c] = byteAt b c ∧
      p.linkMasks[c] = byteAt b (8 + c) &&& 3) ∧
    (∀ i : Fin 6, p.need[i] = byteAt b (16 + i) ∧ p.soft[i] = byteAt b (22 + i)) ∧
    p.reload = byteAt b 28 ∧
    p.prescale.toNat = min 7 (byteAt b 29).toNat ∧ p.extMax.toNat = min 3 (byteAt b 30).toNat ∧
    p.maxRetry.toNat = min 15 (byteAt b 31).toNat ∧
    p.maxStep.toNat = max 1 (min 16 (byteAt b 32).toNat) := by
  have step : (if byteAt b 32 = 0 then 1 else clampTo 16 (byteAt b 32)).toNat =
      max 1 (min 16 (byteAt b 32).toNat) := by
    by_cases zero : byteAt b 32 = 0
    · rw [if_pos zero, zero]
      rfl
    · have positive : (byteAt b 32).toNat ≠ 0 := fun h => zero (BitVec.eq_of_toNat_eq h)
      have limit : (16 : Byte).toNat = 16 := rfl
      rw [if_neg zero, clampTo_toNat]
      omega
  refine ⟨fun c => ⟨?_, ?_⟩, fun i => ⟨tabulate_fin _ i, tabulate_fin _ i⟩, rfl,
    clampTo_toNat _ _, clampTo_toNat _ _, clampTo_toNat _ _, step⟩
  · refine (congrArg dispositionCode (tabulate_fin _ c)).trans (dispositionCode_of_byte _ (good c))
  · refine (tabulate_fin _ c).trans (congrArg (· &&& 3) (tabulate_fin _ c))

end Sys2Proof.Machine

namespace Sys2Proof
open Machine

/-- Settles O27: the refusals in order, and the clamps of the stored policy. -/
theorem policySetStores : Obligations.PolicySetStores := by
  intro s tag b rest mode length
  have taken (l : Link) : (s.taking l).mode = .provision := by simpa using mode
  have fits : b.length ≤ 1038 := by omega
  have size : payloadSizeOk .policySet b.length = true := by rw [length]; rfl
  have idle : (s.taking .m).fusesIdle = s.fusesIdle := rfl
  refine ⟨fun ready => ?_, fun c ready bad first => ?_, fun ready good busy => ?_,
    fun ready good fuseOp reserved => ⟨clampPolicy (policyOfBytes b), ?_, clampPolicy_policyOfBytes good⟩⟩
  · exact exec_replied (k := .policySet) rest ready fits size fun f _ => takePolicySet_linkDenied (taken .e)
  · exact exec_replied (k := .policySet) rest ready fits size fun f payload =>
      takePolicySet_badIndex (taken .m) (by rw [payload]; exact badDisposition_eq_some bad first)
  · refine exec_replied (k := .policySet) rest ready fits size fun f payload =>
      (takePolicySet_good (taken .m) (by rw [payload]; exact badDisposition_eq_none good)).trans
        (if_pos ?_)
    rw [idle]
    exact s.fusesIdle_eq_false.2 busy
  · refine exec_served (l := .m) (k := .policySet) (payload := b)
      { s with staging := clampPolicy (policyOfBytes b) }
      (rest.same rfl rfl rfl rfl) ready.entry ready fits size fun f payload => ?_
    have free : s.fusesIdle ≠ false := by
      rw [s.fusesIdle_iff.2 ⟨fuseOp, reserved⟩]
      exact nofun
    refine (takePolicySet_good (taken .m) (by rw [payload]; exact badDisposition_eq_none good)).trans ?_
    rw [idle, if_neg free, payload]
    rfl

end Sys2Proof

namespace Sys2Proof.Machine

/-! ### PROVISION_CLOSE -/

theorem maskNames_iff (mask : Byte) (p : Fin 8 → Bool) :
    maskNames mask p = true ↔ ∃ c : Fin 8, mask.getLsbD c = true ∧ p c = true := by
  rw [maskNames, List.any_eq_true]
  exact exists_congr fun c => by simp

/-- The conditions of PROVISION_CLOSE on a staged policy, by what each looks for (R147): a line that names an
UNUSED class, a class in use that no line names, a line that names a class in both its masks. -/
def Policy.Stray (p : Policy) (i : Fin 6) : Prop :=
  ∃ c : Fin 8, (p.need[i].getLsbD c = true ∨ p.soft[i].getLsbD c = true) ∧ p.dispositions[c] = .unused

def Policy.Lost (p : Policy) (c : Fin 8) : Prop :=
  p.dispositions[c] ≠ .unused ∧
    ∀ i : Fin 6, ¬(p.need[i].getLsbD c = true ∨ p.soft[i].getLsbD c = true)

def Policy.Shared (p : Policy) (i : Fin 6) : Prop :=
  ∃ c : Fin 8, p.need[i].getLsbD c = true ∧ p.soft[i].getLsbD c = true

section
variable (p : Policy)

theorem Policy.stray_iff (i : Fin 6) :
    maskNames (p.need[i] ||| p.soft[i]) (fun c => p.dispositions[c] == .unused) = true ↔ p.Stray i := by
  rw [maskNames_iff]
  exact exists_congr fun c => by
    rw [BitVec.getLsbD_or, Bool.or_eq_true, beq_iff_eq]

theorem Policy.lost_iff (c : Fin 8) :
    (!(p.dispositions[c] == .unused) &&
      !((List.finRange 6).any fun i => (p.need[i] ||| p.soft[i]).getLsbD c)) = true ↔ p.Lost c := by
  rw [Bool.and_eq_true, Bool.not_eq_true', Bool.not_eq_true', beq_eq_false_iff_ne, Policy.Lost,
    ← Bool.not_eq_true, List.any_eq_true, not_exists]
  exact and_congr_right fun _ => forall_congr' fun i => by
    rw [BitVec.getLsbD_or, Bool.or_eq_true]
    simp

theorem Policy.shared_iff (i : Fin 6) : (p.need[i] &&& p.soft[i] != 0) = true ↔ p.Shared i := by
  have bit (c : Nat) : (p.need[i] &&& p.soft[i]).getLsbD c = true ↔
      p.need[i].getLsbD c = true ∧ p.soft[i].getLsbD c = true := by
    rw [BitVec.getLsbD_and, Bool.and_eq_true]
  rw [bne_iff_ne, Policy.Shared]
  constructor
  · intro nonzero
    by_contra none
    refine nonzero (BitVec.eq_of_getLsbD_eq fun c below => ?_)
    refine Eq.trans (Bool.eq_false_iff.2 fun both => none ⟨⟨c, below⟩, (bit c).1 both⟩)
      BitVec.getLsbD_zero.symm
  · rintro ⟨c, both⟩ zero
    have set := (bit c).2 both
    rw [zero] at set
    exact absurd set (by rw [show (0 : Byte) = 0#8 from rfl, BitVec.getLsbD_zero]; exact nofun)

/-- The lowest line or class of which each condition is found to fail. -/
def Policy.strayLine : Option (Fin 6) :=
  (indicesOf fun i : Fin 6 => maskNames (p.need[i] ||| p.soft[i]) fun c => p.dispositions[c] == .unused).head?

def Policy.lostClass : Option (Fin 8) :=
  (indicesOf fun c : Fin 8 => !(p.dispositions[c] == .unused) &&
    !((List.finRange 6).any fun i => (p.need[i] ||| p.soft[i]).getLsbD c)).head?

def Policy.sharedLine : Option (Fin 6) :=
  (indicesOf fun i : Fin 6 => p.need[i] &&& p.soft[i] != 0).head?

/-- The first condition that fails, with its index (R147). -/
theorem policyFault_eq : policyFault p =
    if p.need[0] = 0 then some (1, 0)
    else p.strayLine.elim
      (p.lostClass.elim (p.sharedLine.map fun i => (4, i.val)) fun c => some (3, c.val))
      fun i => some (2, i.val) := by
  have shape : policyFault p = if p.need[0] = 0 then some (1, 0)
    else match p.strayLine with
    | some i => some (2, i.val)
    | none =>
      match p.lostClass with
      | some c => some (3, c.val)
      | none =>
        match p.sharedLine with
        | some i => some (4, i.val)
        | none => none := rfl
  rw [shape]
  refine if_congr Iff.rfl rfl ?_
  rcases p.strayLine with _ | i
  · rcases p.lostClass with _ | c
    · cases p.sharedLine <;> rfl
    · rfl
  · rfl

variable {p}

theorem Policy.strayLine_eq_some {i : Fin 6} (stray : p.Stray i) (first : ∀ j, j < i → ¬p.Stray j) :
    p.strayLine = some i :=
  head?_indicesOf ((p.stray_iff i).2 stray) fun j below =>
    Bool.eq_false_iff.2 fun h => first j below ((p.stray_iff j).1 h)

theorem Policy.strayLine_eq_none (clean : ∀ i, ¬p.Stray i) : p.strayLine = none :=
  head?_indicesOf_none fun i => Bool.eq_false_iff.2 fun h => clean i ((p.stray_iff i).1 h)

theorem Policy.lostClass_eq_some {c : Fin 8} (lost : p.Lost c) (first : ∀ d, d < c → ¬p.Lost d) :
    p.lostClass = some c :=
  head?_indicesOf ((p.lost_iff c).2 lost) fun d below =>
    Bool.eq_false_iff.2 fun h => first d below ((p.lost_iff d).1 h)

theorem Policy.lostClass_eq_none (clean : ∀ c, ¬p.Lost c) : p.lostClass = none :=
  head?_indicesOf_none fun c => Bool.eq_false_iff.2 fun h => clean c ((p.lost_iff c).1 h)

theorem Policy.sharedLine_eq_some {i : Fin 6} (shared : p.Shared i)
    (first : ∀ j, j < i → ¬p.Shared j) : p.sharedLine = some i :=
  head?_indicesOf ((p.shared_iff i).2 shared) fun j below =>
    Bool.eq_false_iff.2 fun h => first j below ((p.shared_iff j).1 h)

theorem Policy.sharedLine_eq_none (clean : ∀ i, ¬p.Shared i) : p.sharedLine = none :=
  head?_indicesOf_none fun i => Bool.eq_false_iff.2 fun h => clean i ((p.shared_iff i).1 h)

end

section
variable {s : State} (mode : s.mode = .provision) (f : Frame)
include mode

theorem takeProvisionClose_linkDenied :
    takeProvisionClose .e f s = refuse .provisionClose s .linkDenied := by
  rw [takeProvisionClose, if_neg (not_not_intro mode), if_pos rfl]

theorem takeProvisionClose_invalid {condition index : Nat}
    (fault : policyFault s.staging = some (condition, index)) :
    takeProvisionClose .m f s = serve s .policyInvalid [byteOf condition, byteOf index, 0, 0] := by
  rw [takeProvisionClose, if_neg (not_not_intro mode), if_neg nofun, fault]

theorem takeProvisionClose_valid (valid : policyFault s.staging = none) :
    takeProvisionClose .m f s =
      if s.fusesIdle = false then refuse .provisionClose s .retryLater
      else serve
        { s with fuseOp := some { kind := .close, burnList := closeBurnList s.staging, position := 0,
                                  link := .m } }
        .accepted ([0, 0] ++ leBytes 2 (closeBurnList s.staging).length) := by
  rw [takeProvisionClose, if_neg (not_not_intro mode), if_neg nofun, valid]
  simp only [Bool.not_eq_true']

end

/-- The burn list of a close, by the bytes of the policy block (R102). -/
theorem closeBurnList_eq (p : Policy) : closeBurnList p =
    ((List.range 280).filter fun n => (byteAt (blockBytes p) (n / 8)).getLsbD (n % 8)) ++ [280] := by
  rw [closeBurnList, closedFuse]
  refine congrArg (· ++ [280]) (List.filter_congr fun n below => ?_)
  rw [BitVec.getLsbD_ofNat, leNat_testBit, decide_eq_true (List.mem_range.1 below), Bool.true_and]

end Sys2Proof.Machine

namespace Sys2Proof
open Machine

/-- Settles O29: the four conditions are looked for in the order of R147, and the burn list is read bit by
bit. -/
theorem provisionCloseStarts : Obligations.ProvisionCloseStarts := by
  intro s tag rest mode masked stray lost shared
  have taken (l : Link) : (s.taking l).mode = .provision := by simpa using mode
  have size : payloadSizeOk .provisionClose ([] : List Byte).length = true := rfl
  have idle : (s.taking .m).fusesIdle = s.fusesIdle := rfl
  refine ⟨fun ready => ?_, fun cond index ready fails => ?_,
    fun ready engine clean kept apart => ?_⟩
  · exact exec_replied (k := .provisionClose) rest ready (Nat.zero_le _) size fun f _ =>
      takeProvisionClose_linkDenied (taken .e) f
  · have fault : ∃ c i : Nat, policyFault s.staging = some (c, i) ∧ cond = byteOf c ∧ index = byteOf i := by
      rw [policyFault_eq]
      rcases fails with ⟨engine, rfl, rfl⟩ | ⟨engine, i, here, first, rfl, rfl⟩ |
        ⟨engine, clean, c, here, first, rfl, rfl⟩ | ⟨engine, clean, kept, i, here, first, rfl, rfl⟩
      · exact ⟨1, 0, if_pos engine, rfl, rfl⟩
      · exact ⟨2, i, by rw [if_neg engine, Policy.strayLine_eq_some here first]; rfl, rfl, rfl⟩
      · exact ⟨3, c, by
          rw [if_neg engine, Policy.strayLine_eq_none clean, Policy.lostClass_eq_some here first]; rfl,
          rfl, rfl⟩
      · exact ⟨4, i, by
          rw [if_neg engine, Policy.strayLine_eq_none clean, Policy.lostClass_eq_none kept,
            Policy.sharedLine_eq_some here first]; rfl, rfl, rfl⟩
    obtain ⟨c, i, fault, rfl, rfl⟩ := fault
    exact exec_replied (k := .provisionClose) rest ready (Nat.zero_le _) size fun f _ =>
      takeProvisionClose_invalid (taken .m) f (by rw [State.taking_staging]; exact fault)
  have valid : policyFault (s.taking .m).staging = none := by
    rw [State.taking_staging, policyFault_eq, if_neg engine, Policy.strayLine_eq_none clean,
      Policy.lostClass_eq_none kept, Policy.sharedLine_eq_none apart]
    rfl
  refine ⟨fun busy => ?_, fun fuseOp reserved => ?_⟩
  · refine exec_replied (k := .provisionClose) rest ready (Nat.zero_le _) size fun f _ =>
      (takeProvisionClose_valid (taken .m) f valid).trans (if_pos ?_)
    rw [idle]
    exact s.fusesIdle_eq_false.2 busy
  · have free : s.fusesIdle ≠ false := by
      rw [s.fusesIdle_iff.2 ⟨fuseOp, reserved⟩]
      exact nofun
    have list := closeBurnList_eq s.staging
    rw [blockBytes] at list
    dsimp only
    rw [← list]
    refine exec_served (l := .m) (k := .provisionClose) (payload := [])
      { s with fuseOp := some { kind := .close, burnList := closeBurnList s.staging, position := 0,
                                link := .m } }
      (rest.same rfl rfl rfl rfl) ready.entry ready (Nat.zero_le _) size fun f _ => ?_
    refine (takeProvisionClose_valid (taken .m) f valid).trans ?_
    rw [idle, if_neg free, State.taking_staging]
    rfl

end Sys2Proof
end

section
/-! SUPPORT. The digest unit's core, and the job that an idle signature unit takes (R40, R60). -/

namespace Sys2Proof.Machine

/-! ### Flags posted -/

/-- Flags posted on both links, the event not yet closed (R161). -/
def State.raised (s : State) (bits : Half) : State :=
  { s with linkM := { s.linkM with flags := s.linkM.flags ||| bits },
           linkE := { s.linkE with flags := s.linkE.flags ||| bits } }

theorem State.post_eq_raised (s : State) (f : EventFlag) : s.post f = s.raised (flagBit f) := rfl

theorem State.raised_raised (s : State) (a b : Half) : (s.raised a).raised b = s.raised (a ||| b) := by
  simp only [State.raised, BitVec.or_assoc]

theorem State.raised_commit (s : State) (bits : Half) : (s.raised bits).commit = s.flagged bits := rfl

theorem State.recordFault_eq (s : State) (r : FaultRecord) : s.recordFault r =
    ({ s with faults := storeFault s.faults { r with stamp := s.bootClock } } : State).raised 0x080 := rfl

/-! ### The core -/

/-- The idle core takes the oldest chunk, if there is one (R39). -/
theorem State.coreTake_idle {s : State} (idle : s.core = none) :
    s.coreTake = { s with core := s.chunkQueue.head?, chunkQueue := s.chunkQueue.tail } := by
  obtain ⟨queue, hqueue⟩ : ∃ queue, s.chunkQueue = queue := ⟨_, rfl⟩
  rw [State.coreTake, idle, hqueue]
  cases queue with
  | nil => rw [← idle, ← hqueue]; cases s; simp_all
  | cons ch rest => rfl

section
variable {s : State} {ch : Chunk} (core : s.core = some ch)
include core

theorem State.finishChunk_gone (gone : s.chunkClaim ch = none) :
    s.finishChunk = { s with core := s.chunkQueue.head?, chunkQueue := s.chunkQueue.tail } := by
  have gone : ({ s with core := none } : State).chunkClaim ch = none := gone
  simp only [State.finishChunk, core, gone]
  rw [State.coreTake_idle rfl]

theorem State.finishChunk_claim {c : Claim} (stands : s.chunkClaim ch = some c) :
    s.finishChunk =
      (if (c.fold ch).draining = true ∧ (c.fold ch).pendingChunks = 0 then
        ({ s with core := none } : State).completeCtx ch.ctx (c.fold ch)
      else ({ s with core := none } : State).setCtx ch.ctx (some (c.fold ch))).coreTake := by
  have stands : ({ s with core := none } : State).chunkClaim ch = some c := stands
  simp only [State.finishChunk, core, stands]

end

theorem State.chunkClaim_eq_none {s : State} {ch : Chunk}
    (gone : ∀ claim, s.ctxs[ch.ctx] = some claim → claim.slot ≠ ch.slot ∨ claim.gen ≠ ch.gen) :
    s.chunkClaim ch = none :=
  Option.eq_none_iff_forall_ne_some.2 fun c stands => by
    obtain ⟨claimed, slot, gen⟩ := State.chunkClaim_eq_some.1 stands
    exact (gone c claimed).elim (fun h => h slot) fun h => h gen

end Sys2Proof.Machine

namespace Sys2Proof
open Machine

/-- Settles O30: the claim that the chunk belongs to stands and does not complete, or stands no more. -/
theorem chunkFoldsOrIsDiscarded : Obligations.ChunkFoldsOrIsDiscarded := by
  intro s ch rest core
  refine ⟨fun claim claimed slot gen open_ => ?_, fun gone => ?_⟩
  · have stands : s.chunkClaim ch = some claim := State.chunkClaim_eq_some.2 ⟨claimed, slot, gen⟩
    have goesOn : ¬((claim.fold ch).draining = true ∧ (claim.fold ch).pendingChunks = 0) := by
      rintro ⟨draining, last⟩
      have pending : claim.pendingChunks - 1 = 0 := last
      rcases open_ with filling | more
      · exact absurd (filling.symm.trans draining) nofun
      · omega
    have folded := State.finishChunk_claim core stands
    rw [if_neg goesOn, State.coreTake_idle rfl] at folded
    change Host.Outcome.next s.finishChunk.commit = _
    rw [folded]
    exact congrArg _ (State.commit_of_atRest (rest.same rfl rfl rfl rfl))
  · change Host.Outcome.next s.finishChunk.commit = _
    rw [State.finishChunk_gone core (State.chunkClaim_eq_none gone)]
    exact congrArg _ (State.commit_of_atRest (rest.same rfl rfl rfl rfl))

end Sys2Proof

namespace Sys2Proof.Machine

/-! ### The next job -/

/-- The signature unit finds the same jobs, inputs and keys (R62, R63, R67). -/
structure State.SameJobs (s t : State) : Prop where
  jobs : t.jobs = s.jobs
  slots : ∀ n : Fin 12, t.slots[n].parsed = s.slots[n].parsed ∧ t.slots[n].buffer = s.slots[n].buffer
  fuses : t.fuses = s.fuses
  rom : t.rom = s.rom

theorem State.SameJobs.of_slots {s t : State} (jobs : t.jobs = s.jobs) (slots : t.slots = s.slots)
    (fuses : t.fuses = s.fuses) (rom : t.rom = s.rom) : s.SameJobs t :=
  ⟨jobs, fun n => by rw [slots]; exact ⟨rfl, rfl⟩, fuses, rom⟩

theorem State.keyState_congr {s t : State} (fuses : t.fuses = s.fuses) (k : Fin 10) :
    t.keyState k = s.keyState k := by
  unfold State.keyState State.revokeBurnt
  rw [fuses]

theorem State.keyBytes_congr {s t : State} (fuses : t.fuses = s.fuses) (rom : t.rom = s.rom) (k : Fin 10) :
    t.keyBytes k = s.keyBytes k := by
  unfold State.keyBytes rootEntry
  rw [fuses, rom]

section
variable {s t : State} (same : s.SameJobs t)
include same

theorem State.SameJobs.slotKeyRevoked (n : Fin 12) : t.slotKeyRevoked n = s.slotKeyRevoked n := by
  rw [State.slotKeyRevoked, State.slotKeyRevoked, Slot.keyIndex, Slot.keyIndex, (same.slots n).1]
  cases s.slots[n].parsed with
  | none => rfl
  | some p => exact congrArg (· == KeyState.revoked) (State.keyState_congr same.fuses p.key)

theorem State.SameJobs.startedJob (j : Job) : t.startedJob j = s.startedJob j := by
  cases j with
  | manifest n g =>
    obtain ⟨parsed, buffer⟩ := same.slots n
    have keys : t.keyBytes = s.keyBytes := funext (State.keyBytes_congr same.fuses same.rom)
    simp only [State.startedJob, Slot.signedBytes, Slot.signatureBytes, Slot.keyIndex, parsed, buffer, keys]
  | revoke l target r sig =>
    simp only [State.startedJob, State.noticeMessage, same.rom,
      State.keyBytes_congr same.fuses same.rom]

end

/-- The next job of an idle unit, as the unit starts it. -/
theorem State.StartsNext.cases {s : State} {next : Option ActiveJob} {rest : List Job}
    (h : s.StartsNext next rest) :
    (s.jobs = [] ∧ next = none ∧ rest = []) ∨
    ∃ j, s.jobs = j :: rest ∧ next = some (s.startedJob j) ∧
      ∀ n g, j = .manifest n g → s.slotKeyRevoked n = false := by
  rcases h with empty | ⟨n, g, q, jobs, parsed, key, rfl⟩ | ⟨l, target, r, sig, jobs, rfl⟩
  · exact .inl empty
  · refine .inr ⟨_, jobs, by rw [State.startedJob_manifest parsed], ?_⟩
    rintro n' g' e
    cases e
    exact State.slotKeyRevoked_eq_false parsed key
  · exact .inr ⟨_, jobs, by rw [State.startedJob_revoke], fun n g e => by cases e⟩

/-- An idle unit takes its next job, where the event has changed no input of it (R60). -/
theorem State.takeJob_next {s t : State} (same : s.SameJobs t) (idle : t.active = none)
    {next : Option ActiveJob} {rest : List Job} (h : s.StartsNext next rest) :
    t.endStarts = t ∧ t.takeJob = { t with active := next, jobs := rest } := by
  rcases h.cases with ⟨jobs, rfl, rfl⟩ | ⟨j, jobs, rfl, starts⟩
  · have empty : t.jobs = [] := same.jobs.trans jobs
    refine ⟨State.endStarts_none fun i g rest e => ?_, ?_⟩
    · rw [empty] at e
      cases e
    · rw [State.takeJob, empty]
      dsimp only
      rw [← idle, ← empty]
  · have head : t.jobs = j :: rest := same.jobs.trans jobs
    refine ⟨State.endStarts_none fun i g rest' e => ?_, ?_⟩
    · rw [head] at e
      rw [same.slotKeyRevoked]
      exact starts i g (List.cons.inj e).1
    · rw [State.takeJob, head]
      dsimp only
      rw [same.startedJob]

/-- Behind a job's end that closes no class and wins none the unit takes its next job alone (R60). -/
theorem State.startNext_next {before s t : State} (same : s.SameJobs t) (idle : t.active = none)
    {next : Option ActiveJob} {rest : List Job} (h : s.StartsNext next rest)
    (still : before.conclude t = t) :
    before.startNext t = { t with active := next, jobs := rest } := by
  obtain ⟨first, takes⟩ := State.takeJob_next same idle h
  rw [State.startNext, if_neg (by rw [idle]; exact nofun), first, still, first, takes]

end Sys2Proof.Machine

namespace Sys2Proof
open Machine

/-- Settles O36: neither end of the job moves a slot, so the next job is the one that waited. -/
theorem revokeJobEnds : Obligations.RevokeJobEnds := by
  intro s l target r message key sig next rest atRest active h
  have ends : exec .revokeJobEnd s = .next s.endRevokeJob.commit := rfl
  refine ⟨fun good => ?_, fun bad => ?_⟩
  · have outcome : s.endRevokeJob =
        { ({ s with active := none } : State).handOverRevocation l target with
          active := next, jobs := rest } := by
      simp only [State.endRevokeJob, active, good, if_true]
      exact State.startNext_next (.of_slots rfl rfl rfl rfl) rfl h (State.conclude_same rfl)
    rw [ends, outcome]
    exact congrArg _ (State.commit_of_atRest (atRest.same rfl rfl rfl rfl))
  · have outcome : s.endRevokeJob =
        { ({ s with active := none } : State).failRevocation l target r with
          active := next, jobs := rest } := by
      simp only [State.endRevokeJob, active, bad, Bool.false_eq_true, if_false]
      exact State.startNext_next (.of_slots rfl rfl rfl rfl) rfl h (State.conclude_same rfl)
    rw [ends, outcome]
    have posted : { ({ s with active := none } : State).failRevocation l target r with
          active := next, jobs := rest } =
        ({ s with
          active := next, jobs := rest, reserved := false, revoking := none
          faults := storeFault s.faults
            { stamp := s.bootClock, code := .revokeBadSignature, link := some l, slot := none,
              cls := none, seg := none, key := some target,
              detail := [byteOf r, 0, 0, 0, 0, 0, 0, 0] } } : State).raised 0x0C0 := by
      rw [State.failRevocation, State.recordFault_eq, State.post_eq_raised, State.raised_raised]
      rfl
    rw [posted, State.raised_commit]

end Sys2Proof
end

section
/-! SUPPORT. The resets and the ends of holds (R95, R149 to R154). -/

namespace Sys2Proof.Machine

/-- What a reset leaves of links, lines, pins and windows is at rest (Table 9-4, R172, R173). -/
theorem State.atRest_of_cold {s : State} (linkM : s.linkM = LinkState.fresh)
    (linkE : s.linkE = LinkState.fresh) (lines : s.lines = State.reset.lines)
    (pins : s.pins = State.reset.pins) (window : s.drivesSdo = false) : s.AtRest where
  linkM := by rw [linkM]; exact ⟨nofun, ⟨rfl, rfl⟩⟩
  linkE := by rw [linkE]; exact ⟨nofun, ⟨rfl, rfl⟩⟩
  pins := by
    have held : (tabulate fun i : Fin 6 => s.lines[i].state == .released && !s.deaf) =
        tabulate fun _ => false := by
      rw [lines]
      refine congrArg tabulate (funext fun i => ?_)
      rw [State.reset, tabulate_fin]
      rfl
    rw [State.drivenPins, linkM, linkE, window, pins, held]
    rfl

/-- What a reset makes of the fuses (R95). -/
theorem State.interruptBurn_stops (s : State) :
    s.BurnStops s.interruptBurn.fuses s.interruptBurn.freeCount := by
  unfold State.interruptBurn
  split
  next idle => exact ⟨fun _ => ⟨rfl, rfl⟩, fun op running => by cases idle.symm.trans running⟩
  next op running =>
    refine ⟨fun idle => (by cases idle.symm.trans running), fun op' running' => ?_⟩
    obtain rfl : op = op' := Option.some.inj (running.symm.trans running')
    dsimp only
    split
    · exact .inr rfl
    · exact .inl rfl

theorem State.interruptBurn_idle {s : State} (idle : s.fuseOp = none) :
    s.interruptBurn.fuses = s.fuses ∧ s.interruptBurn.freeCount = s.freeCount :=
  s.interruptBurn_stops.1 idle

theorem State.windowOpen_eq (s : State) : s.windowOpen = decide (s.spi ≠ .shut) := by
  cases window : s.spi <;> simp [State.windowOpen, window]

/-- A window open at a reset is ignored, so SDO is not driven behind it (R172, R173). -/
theorem State.cold_drivesSdo (s : State) : s.cold.drivesSdo = false := by
  have shape : s.cold.drivesSdo = (s.spi != .shut && !(s.spi != .shut) && !s.deaf) := rfl
  rw [shape, Bool.and_not_self, Bool.false_and]

theorem State.cold_commit (s : State) : s.cold.commit = s.cold :=
  State.commit_of_atRest (State.atRest_of_cold rfl rfl rfl rfl s.cold_drivesSdo)

theorem State.warmReset_commit (s : State) (cause : ResetCause) :
    (s.warmReset cause).commit = s.warmReset cause :=
  State.commit_of_atRest (State.atRest_of_cold rfl rfl rfl rfl s.cold_drivesSdo)

/-- The cold state in the terms of Table 9-4. -/
theorem State.cold_eq (s : State) : s.cold = { State.reset with
    fuses := s.interruptBurn.fuses, rom := s.rom, freeCount := s.interruptBurn.freeCount
    pending := s.pending, resetNLow := s.resetNLow, supplyLow := s.supplyLow
    spi := s.spi, windowIgnored := decide (s.spi ≠ .shut), selfTest := !s.deaf } := by
  rw [← State.windowOpen_eq]
  rfl

/-- The warm reset state likewise, with what it keeps (R150, R153, R154). -/
theorem State.warmReset_eq (s : State) (cause : ResetCause) : s.warmReset cause = { State.reset with
    fuses := s.interruptBurn.fuses, rom := s.rom, freeCount := s.interruptBurn.freeCount
    pending := s.pending, resetNLow := s.resetNLow, supplyLow := s.supplyLow
    spi := s.spi, windowIgnored := decide (s.spi ≠ .shut), selfTest := !s.deaf
    bootClock := s.bootClock, faults := s.faults, cause := s.cause.note cause
    failedCount := if s.verdict = .printReady then s.failedCount
      else min 255 (s.failedCount + 1) } := by
  rw [State.warmReset, State.cold_eq]
  rfl

end Sys2Proof.Machine

namespace Sys2Proof
open Machine

/-- Settles O45: what a burn under way leaves is `State.interruptBurn_stops`. -/
theorem coldResetClears : Obligations.ColdResetClears := by
  intro s cause
  obtain ⟨idle, running⟩ := State.interruptBurn_stops { s with supplyLow := decide (cause = .brownOut) }
  refine ⟨_, _, idle, running, ?_⟩
  have outcome : exec (.coldReset cause) s =
      .next (State.cold { s with supplyLow := decide (cause = .brownOut) }).commit := rfl
  have begins : (!State.deaf { s with supplyLow := decide (cause = .brownOut) }) =
      decide (cause = .powerOn ∧ s.resetNLow = false) := by
    cases cause <;> cases s.resetNLow <;> simp [State.deaf]
  rw [outcome, State.cold_commit, State.cold_eq, begins]

/-- Settles O46: the warm reset of a part whose level has fallen. -/
theorem resetNFallWarmResets : Obligations.ResetNFallWarmResets := by
  intro s high supplied
  obtain ⟨idle, running⟩ := State.interruptBurn_stops { s with resetNLow := true }
  refine ⟨_, _, idle, running, ?_⟩
  have falls : s.resetFalls = State.warmReset { s with resetNLow := true } .pin := by
    rw [State.resetFalls, if_neg (by rw [high]; exact nofun), if_neg (by rw [supplied]; exact nofun)]
  have outcome : exec .resetNFall s = .next s.resetFalls.commit := rfl
  rw [outcome, falls, State.warmReset_commit, State.warmReset_eq]
  have unsupplied : ({ s with resetNLow := true } : State).supplyLow = State.reset.supplyLow := supplied
  rw [unsupplied]
  rfl

/-- Settles O47: a part that stays held drives nothing, and one whose last hold ends is driven anew. -/
theorem holdsEnd : Obligations.HoldsEnd := by
  intro s
  have rises (low : s.resetNLow = true) :
      exec .resetNRise s = .next ({ s with resetNLow := false, selfTest := !s.supplyLow } : State).commit := by
    have outcome : exec .resetNRise s = .next s.resetRises.commit := rfl
    rw [outcome, State.resetRises, if_pos low]
  refine ⟨fun rest low supplied => ?_, fun rest low unsupplied => ?_, fun idle unsupplied => ?_⟩
  · rw [rises low, State.commit, LinkState.close_of_atRest rest.linkM, LinkState.close_of_atRest rest.linkE]
    have begins : (!s.supplyLow) = true := by rw [supplied]; rfl
    rw [begins]
  · have held : s.deaf = true := by rw [State.deaf, low, Bool.true_or]
    have stays : ({ s with resetNLow := false, selfTest := false } : State).deaf = s.deaf := by
      rw [held]
      exact unsupplied
    have driven : ({ s with resetNLow := false, selfTest := false } : State).drivenPins = s.drivenPins := by
      simp only [State.drivenPins, State.drivesSdo, stays]
      rfl
    have waits : (!s.supplyLow) = false := by rw [unsupplied]; rfl
    rw [rises low, waits]
    exact congrArg Host.Outcome.next (State.commit_of_atRest (rest.same rfl rfl rfl driven))
  · have recovers : s.supplyRecovers = State.cold { s with supplyLow := false } := by
      rw [State.supplyRecovers, if_pos unsupplied]
      rfl
    have outcome : exec .supplyRecovered s = .next s.supplyRecovers.commit := rfl
    obtain ⟨fuses, count⟩ := State.interruptBurn_idle (s := { s with supplyLow := false }) idle
    have begins : (!State.deaf { s with supplyLow := false }) = !s.resetNLow := by simp [State.deaf]
    rw [outcome, recovers, State.cold_commit, State.cold_eq, fuses, count, begins]
    rfl

end Sys2Proof
end

section
/-! SUPPORT. The self-test: its steps, their fault records and what follows them (R75, R103, R104, R139 to
R142). -/

namespace Sys2Proof.Machine

/-! ### Rows -/

theorem thermometer_getLsbD (f k : Nat) : (thermometer f).getLsbD k = (decide (k < 63) && decide (k < f)) := by
  rw [thermometer, BitVec.getLsbD_ofNat, Nat.testBit_two_pow_sub_one]

/-- What holds below a number wherever it holds above is held by the numbers below its count. -/
theorem countP_range_of_steps {p : Nat → Bool} (n : Nat)
    (steps : ∀ j k : Nat, j < k → k < n → p k = true → p j = true) {k : Nat} (below : k < n) :
    p k = decide (k < (List.range n).countP p) := by
  induction n with
  | zero => omega
  | succ n ih =>
    have earlier := ih fun j k less h => steps j k less (by omega)
    have most : (List.range n).countP p ≤ n := List.countP_le_length.trans_eq List.length_range
    rw [List.range_succ, List.countP_append, List.countP_singleton]
    cases top : p n with
    | false =>
      rw [if_neg nofun, Nat.add_zero]
      rcases Nat.lt_succ_iff_lt_or_eq.1 below with less | rfl
      · exact earlier less
      · rw [top, decide_eq_false most.not_gt]
    | true =>
      have all : (List.range n).countP p = n := by
        rw [List.countP_eq_length.2 fun j mem => steps j n (List.mem_range.1 mem) (by omega) top,
          List.length_range]
      rw [if_pos rfl, all, decide_eq_true below]
      rcases Nat.lt_succ_iff_lt_or_eq.1 below with less | rfl
      · exact steps k n less (by omega) top
      · exact top

/-- A floor row passes where every fuse below a burnt one is burnt (R103). -/
theorem rowPasses_iff (row : BitVec 63) : rowPasses row = true ↔
    ∀ j k : Nat, j < k → row.getLsbD k = true → row.getLsbD j = true := by
  rw [rowPasses, beq_iff_eq]
  constructor
  · intro same j k less burnt
    rw [same, thermometer_getLsbD, Bool.and_eq_true, decide_eq_true_iff, decide_eq_true_iff] at burnt ⊢
    omega
  · intro steps
    refine BitVec.eq_of_getLsbD_eq fun k inside => ?_
    rw [thermometer_getLsbD, decide_eq_true inside, Bool.true_and]
    exact countP_range_of_steps 63 (fun j k less _ => steps j k less) inside

/-- The highest of some numbers below a bound. -/
theorem find?_reverse_range {p : Nat → Bool} {n : Nat} (some_ : ∃ k, k < n ∧ p k = true) :
    ∃ i, (List.range n).reverse.find? p = some i ∧ i < n ∧ p i = true ∧
      ∀ k, i < k → k < n → p k = false := by
  induction n with
  | zero => omega
  | succ n ih =>
    rw [List.range_succ, List.reverse_append, List.reverse_singleton, List.singleton_append,
      List.find?_cons]
    cases top : p n with
    | true => exact ⟨n, rfl, n.lt_succ_self, top, fun k above below => by omega⟩
    | false =>
      obtain ⟨k, below, holds⟩ := some_
      have less : k < n := by
        rcases Nat.lt_succ_iff_lt_or_eq.1 below with less | rfl
        · exact less
        · cases top.symm.trans holds
      obtain ⟨i, found, inside, here, last⟩ := ih ⟨k, less, holds⟩
      refine ⟨i, found, by omega, here, fun m above most => ?_⟩
      rcases Nat.lt_succ_iff_lt_or_eq.1 most with less | rfl
      · exact last m above less
      · exact top

/-- The lowest and the highest fuse of a row that fails, as its fault names them (Table 11-13). -/
theorem row_ends {row : BitVec 63}
    (fails : ¬∀ j k : Nat, j < k → row.getLsbD k = true → row.getLsbD j = true) :
    ∃ lo hi : Fin 63,
      row.getLsbD lo = false ∧ (∀ k, k < lo.val → row.getLsbD k = true) ∧
      row.getLsbD hi = true ∧ (∀ k, hi.val < k → row.getLsbD k = false) ∧
      lowestUnburnt row = lo.val + 1 ∧ highestBurnt row = hi.val + 1 := by
  push Not at fails
  obtain ⟨j, k, less, burnt, unburnt⟩ := fails
  have inside : k < 63 := BitVec.lt_of_getLsbD burnt
  obtain ⟨hi, found, hiInside, hiBurnt, last⟩ :=
    find?_reverse_range (p := fun i => row.getLsbD i) ⟨k, inside, burnt⟩
  have some_ : ((List.range 63).find? fun i => !row.getLsbD i).isSome = true := by
    rw [List.find?_isSome]
    exact ⟨j, List.mem_range.2 (by omega), by simpa using unburnt⟩
  obtain ⟨lo, lowest⟩ := Option.isSome_iff_exists.1 some_
  obtain ⟨loUnburnt, loInside, first⟩ := List.find?_range_eq_some.1 lowest
  refine ⟨⟨lo, List.mem_range.1 loInside⟩, ⟨hi, hiInside⟩, by simpa using loUnburnt,
    fun k below => by simpa using first k below, hiBurnt, fun k above => ?_, ?_, ?_⟩
  · rcases Nat.lt_or_ge k 63 with below | beyond
    · exact last k above below
    · exact BitVec.getLsbD_of_ge _ _ beyond
  · rw [lowestUnburnt, lowest]
  · rw [highestBurnt, found]

/-! ### The policy block -/

theorem clampTo_eq_self (limit b : Byte) : clampTo limit b = b ↔ b.toNat ≤ limit.toNat := by
  rw [BitVec.toNat_inj.symm, clampTo_toNat]
  omega

theorem and_three_eq_self (b : Byte) : b &&& 3 = b ↔ b.toNat ≤ 3 := by
  revert b
  decide +kernel

theorem tabulate_eq_iff {α : Type} {n : Nat} (f : Fin n → α) (v : Vector α n) :
    tabulate f = v ↔ ∀ i : Fin n, f i = v[i] := by
  constructor
  · rintro rfl i
    exact (tabulate_fin f i).symm
  · intro same
    refine Vector.ext fun i h => ?_
    exact (tabulate_fin f ⟨i, h⟩).trans (same ⟨i, h⟩)

/-- The clamps of POLICY_SET leave a policy that lies within them (R145). -/
theorem clampPolicy_eq_self (p : Policy) : clampPolicy p = p ↔
    (∀ c : Fin 8, p.linkMasks[c].toNat ≤ 3) ∧ p.prescale.toNat ≤ 7 ∧ p.extMax.toNat ≤ 3 ∧
      p.maxRetry.toNat ≤ 15 ∧ 1 ≤ p.maxStep.toNat ∧ p.maxStep.toNat ≤ 16 := by
  have masks : (tabulate fun c => p.linkMasks[c] &&& 3) = p.linkMasks ↔
      ∀ c : Fin 8, p.linkMasks[c].toNat ≤ 3 := by
    rw [tabulate_eq_iff]
    exact forall_congr' fun c => and_three_eq_self _
  have step : (if p.maxStep = 0 then 1 else clampTo 16 p.maxStep) = p.maxStep ↔
      1 ≤ p.maxStep.toNat ∧ p.maxStep.toNat ≤ 16 := by
    by_cases zero : p.maxStep = 0
    · rw [if_pos zero, zero]
      decide
    · have positive : p.maxStep.toNat ≠ 0 := fun h => zero (BitVec.eq_of_toNat_eq h)
      have limit : (16 : Byte).toNat = 16 := rfl
      rw [if_neg zero, clampTo_eq_self, limit]
      omega
  constructor
  · intro same
    exact ⟨masks.1 (congrArg Policy.linkMasks same), (clampTo_eq_self 7 _).1 (congrArg Policy.prescale same),
      (clampTo_eq_self 3 _).1 (congrArg Policy.extMax same),
      (clampTo_eq_self 15 _).1 (congrArg Policy.maxRetry same), step.1 (congrArg Policy.maxStep same)⟩
  · rintro ⟨links, prescale, ext, retry, steps⟩
    rw [clampPolicy, masks.2 links, (clampTo_eq_self 7 _).2 prescale, (clampTo_eq_self 3 _).2 ext,
      (clampTo_eq_self 15 _).2 retry, step.2 steps]

theorem badDisposition_isNone (b : List Byte) :
    (badDisposition b).isNone = true ↔ ∀ c : Fin 8, (byteAt b c).toNat ≤ 2 := by
  rw [Option.isNone_iff_eq_none, badDisposition, indicesOf, List.head?_eq_none_iff, List.filter_eq_nil_iff]
  refine ⟨fun good c => ?_, fun good c _ => ?_⟩
  · have here := good c (List.mem_finRange c)
    rw [Option.isNone_iff_eq_none, dispositionOf_eq_none] at here
    omega
  · rw [Option.isNone_iff_eq_none, dispositionOf_eq_none]
    exact (good c).not_gt

/-- A policy block's fields lie within the values of Table 6-5 (R104). -/
theorem policyInRange_iff (b : List Byte) : policyInRange b = true ↔
    (∀ c : Fin 8, (byteAt b c).toNat ≤ 2 ∧ (byteAt b (8 + c)).toNat ≤ 3) ∧
      (byteAt b 29).toNat ≤ 7 ∧ (byteAt b 30).toNat ≤ 3 ∧ (byteAt b 31).toNat ≤ 15 ∧
      1 ≤ (byteAt b 32).toNat ∧ (byteAt b 32).toNat ≤ 16 := by
  have masks (c : Fin 8) : (policyOfBytes b).linkMasks[c] = byteAt b (8 + c) := tabulate_fin _ c
  rw [policyInRange, Bool.and_eq_true, beq_iff_eq, badDisposition_isNone, clampPolicy_eq_self, forall_and,
    and_assoc]
  simp only [masks]
  exact Iff.rfl

theorem byteAt_take {b : List Byte} {n i : Nat} (below : i < n) : byteAt (b.take n) i = byteAt b i := by
  rw [byteAt, byteAt, List.getD_eq_getElem?_getD, List.getD_eq_getElem?_getD,
    List.getElem?_take_of_lt below]

theorem leBytes_leNat (b : List Byte) : leBytes b.length (leNat b) = b := by
  induction b with
  | nil => rfl
  | cons x rest ih =>
    have low := x.isLt
    have here : BitVec.ofNat 8 (x.toNat + 256 * leNat rest) = x := by
      apply BitVec.eq_of_toNat_eq
      rw [BitVec.toNat_ofNat]
      omega
    have above : (x.toNat + 256 * leNat rest) / 256 = leNat rest := by omega
    rw [leNat, List.length_cons, leBytes, here, above, ih]

/-! ### The steps -/

theorem State.romFault_eq (s : State) : s.romFault =
    if sha256 s.rom.table = s.rom.reference.toList then none
    else some { FaultRecord.blank with
      code := .selftestRom, detail := (sha256 s.rom.table).take 4 ++ s.rom.reference.toList.take 4 } := by
  have computed : padTo 4 (sha256 s.rom.table) = (sha256 s.rom.table).take 4 := padTo_of_le (by simp)
  have stored : padTo 4 s.rom.reference.toList = s.rom.reference.toList.take 4 := padTo_of_le (by simp)
  have whole : padTo 8 ((sha256 s.rom.table).take 4 ++ s.rom.reference.toList.take 4) =
      (sha256 s.rom.table).take 4 ++ s.rom.reference.toList.take 4 := by
    rw [padTo_of_le (by simp), List.take_of_length_le (by simp)]
  rw [State.romFault, computed, stored, faultOf, whole]

section
variable {s : State}

/-- The first floor row in class order that is no thermometer (R103). -/
theorem State.floorFault_eq_some {c : Fin 8} (fails : rowPasses s.fuses.floors[c] = false)
    (first : ∀ d, d < c → rowPasses s.fuses.floors[d] = true) :
    s.floorFault = some { FaultRecord.blank with
      code := .selftestFuse, cls := some c
      detail := [byteOf (burntCount s.fuses.floors[c]), byteOf (lowestUnburnt s.fuses.floors[c]),
        byteOf (highestBurnt s.fuses.floors[c]), 0, 0, 0, 0, 0] } := by
  have found : (indicesOf fun c : Fin 8 => !rowPasses s.fuses.floors[c]).head? = some c :=
    head?_indicesOf (by rw [fails]; rfl) fun d below => by rw [first d below]; rfl
  rw [State.floorFault, found]
  rfl

theorem State.floorFault_eq_none (passes : ∀ c : Fin 8, rowPasses s.fuses.floors[c] = true) :
    s.floorFault = none := by
  have absent : (indicesOf fun c : Fin 8 => !rowPasses s.fuses.floors[c]).head? = none :=
    head?_indicesOf_none fun c => by rw [passes c]; rfl
  rw [State.floorFault, absent]

end

theorem State.policyFaultRecord_eq (s : State) : s.policyFaultRecord =
    if (crc16 (s.policyBlock.take 33)).toNat = leNat (slice s.policyBlock 33 2) ∧
      policyInRange (s.policyBlock.take 33) = true then none
    else some { FaultRecord.blank with
      code := .selftestPolicy
      detail := leBytes 2 (crc16 (s.policyBlock.take 33)).toNat ++ slice s.policyBlock 33 2 ++
        [0, 0, 0, 0] } := by
  have stored : leBytes 2 (leNat (slice s.policyBlock 33 2)) = slice s.policyBlock 33 2 := by
    have two : (slice s.policyBlock 33 2).length = 2 := by simp [slice, State.policyBlock]
    conv_lhs => rw [← two]
    exact leBytes_leNat _
  rw [State.policyFaultRecord, faultOf, stored]
  rfl

theorem State.selfTestFault_eq (s : State) : s.selfTestFault =
    (s.romFault <|> s.floorFault <|> if s.closedBurnt then s.policyFaultRecord else none) := by
  rw [State.selfTestFault]
  cases s.romFault with
  | some r => rfl
  | none => cases s.floorFault <;> rfl

end Sys2Proof.Machine

namespace Sys2Proof
open Machine

/-- Settles O40: each clause is the fault of one step behind steps that pass. -/
theorem selfTestSteps : Obligations.SelfTestSteps := by
  intro s table romGood steps block policyGood fault
  have rows (c : Fin 8) : rowPasses s.fuses.floors[c] = true ↔ steps c := rowPasses_iff _
  have rom (good : romGood) : s.romFault = none := (State.romFault_eq s).trans (if_pos good)
  have floors (good : ∀ c, steps c) : s.floorFault = none :=
    State.floorFault_eq_none fun c => (rows c).2 (good c)
  have policy : (policyGood ↔ (crc16 (block.take 33)).toNat = leNat (slice block 33 2) ∧
      policyInRange (block.take 33) = true) := by
    rw [policyInRange_iff]
    have field (i : Nat) (below : i < 33) : byteAt (block.take 33) i = byteAt block i := byteAt_take below
    have classes (c : Fin 8) : byteAt (block.take 33) c = byteAt block c ∧
        byteAt (block.take 33) (8 + c) = byteAt block (8 + c) := ⟨field _ (by omega), field _ (by omega)⟩
    simp only [fun c : Fin 8 => (classes c).1, fun c : Fin 8 => (classes c).2, field 29 (by decide),
      field 30 (by decide), field 31 (by decide), field 32 (by decide)]
    exact Iff.rfl
  refine ⟨fun bad => ?_, fun c good fails first => ?_, fun good passes closed bad => ?_,
    fun good passes closed => ?_⟩
  · rw [State.selfTestFault_eq, (State.romFault_eq s).trans (if_neg bad)]
    rfl
  · obtain ⟨lo, hi, loUnburnt, lowest, hiBurnt, highest, low, high⟩ := row_ends fails
    refine ⟨lo, hi, loUnburnt, lowest, hiBurnt, highest, ?_⟩
    rw [State.selfTestFault_eq, rom good, State.floorFault_eq_some
      (Bool.eq_false_iff.2 fun h => fails ((rows c).1 h)) fun d below => (rows d).2 (first d below), low, high]
    rfl
  · rw [State.selfTestFault_eq, rom good, floors passes, State.closedBurnt, closedFuse, closed, if_pos rfl,
      State.policyFaultRecord_eq, if_neg fun h => bad (policy.2 h)]
    rfl
  · rw [State.selfTestFault_eq, rom good, floors passes]
    cases burnt : s.closedBurnt with
    | false => rfl
    | true =>
      rw [if_pos rfl, State.policyFaultRecord_eq, if_pos (policy.1 (closed burnt))]
      rfl

end Sys2Proof
end

section
/-! SUPPORT. The end of the self-test, the boot window's ticks and the boot clock (R123, R128 to R130, R140
to R142, R155). -/

namespace Sys2Proof.Machine

/-! ### The end of the self-test -/

section
variable {s : State} (running : s.selfTest = true)
include running

theorem State.endSelfTest_fails {r : FaultRecord} (fault : s.selfTestFault = some r) :
    s.endSelfTest = ({ s with selfTest := false } : State).enterFailsafe r := by
  have fault : ({ s with selfTest := false } : State).selfTestFault = some r := fault
  simp only [State.endSelfTest, running, if_true, fault]

variable (passes : s.selfTestFault = none)
include passes

theorem State.endSelfTest_open (unburnt : s.closedBurnt = false) :
    s.endSelfTest = { s with selfTest := false, mode := .provision } := by
  have passes : ({ s with selfTest := false } : State).selfTestFault = none := passes
  have unburnt : ({ s with selfTest := false } : State).closedBurnt = false := unburnt
  simp only [State.endSelfTest, running, if_true, passes, unburnt, Bool.false_eq_true, if_false]

theorem State.endSelfTest_closed (burnt : s.closedBurnt = true) :
    s.endSelfTest =
      if s.burntPolicy.maxRetry.toNat < s.failedCount then
        ({ s with selfTest := false } : State).settleRetryLimit s.burntPolicy
      else ({ s with selfTest := false } : State).enterVerify s.burntPolicy := by
  have passes : ({ s with selfTest := false } : State).selfTestFault = none := passes
  have burnt : ({ s with selfTest := false } : State).closedBurnt = true := burnt
  simp only [State.endSelfTest, running, if_true, passes, burnt]
  rfl

end

end Sys2Proof.Machine

namespace Sys2Proof
open Machine

/-- Settles O41: the two ends of the self-test, the first of which posts FAULT alone. -/
theorem selfTestFailsOrProvisions : Obligations.SelfTestFailsOrProvisions := by
  intro s rest running
  have outcome : exec .selftestComplete s = .next s.endSelfTest.commit := rfl
  refine ⟨fun r fault => ?_, fun passes unburnt => ?_⟩
  · rw [outcome, State.endSelfTest_fails running fault]
    rfl
  · rw [outcome, State.endSelfTest_open running passes unburnt]
    exact congrArg Host.Outcome.next (State.commit_of_atRest (rest.same rfl rfl rfl rfl))

end Sys2Proof

namespace Sys2Proof.Machine

/-! ### A closed part starts -/

theorem anyLine_iff (lines : Vector LineRec 6) (t : LineState) :
    anyLine lines t = true ↔ ∃ i : Fin 6, lines[i].state = t := by
  rw [anyLine, List.any_eq_true]
  exact ⟨fun ⟨i, _, h⟩ => ⟨i, beq_iff_eq.1 h⟩, fun ⟨i, h⟩ => ⟨i, List.mem_finRange i, beq_iff_eq.2 h⟩⟩

theorem anyLine_eq_false (lines : Vector LineRec 6) (t : LineState) :
    anyLine lines t = false ↔ ∀ i : Fin 6, lines[i].state ≠ t := by
  rw [← Bool.not_eq_true, anyLine_iff, not_exists]

theorem State.raised_zero (s : State) : s.raised 0 = s := by
  have same (x : LinkState) : ({ x with flags := x.flags ||| 0 } : LinkState) = x := by
    have flags : x.flags ||| 0 = x.flags := BitVec.or_zero
    rw [flags]
  simp only [State.raised, same]

/-- A count set posts WINDOW_LOW where it is R div 4 (R130). -/
theorem State.setCount_raised (s : State) (w : Window) (count : Nat) :
    s.setCount w count =
      ({ s with window := { w with count := count, toTick := some (2 ^ w.prescale * 1000) } } :
        State).raised (if count = w.reload / 4 then 0x010 else 0) := by
  have low : ({ w with count := count, toTick := some (tickInterval w.prescale) } : Window).atLow =
      decide (count = w.reload / 4) := beq_eq_decide _ _
  simp only [State.setCount, low, decide_eq_true_eq]
  split
  · rfl
  · rw [State.raised_zero]
    rfl

theorem State.settleIfDecided_held {s : State} (held : ∃ i : Fin 6, s.lines[i].state = .held) :
    s.settleIfDecided = s :=
  if_neg fun ⟨_, decided⟩ => by
    rw [(anyLine_iff _ _).2 held] at decided
    cases decided

/-- A part without a live slot settles with the verdict of its lines alone (R121). -/
theorem State.settleIfDecided_empty {s : State} (mode : s.mode = .verify)
    (decided : ∀ i : Fin 6, s.lines[i].state ≠ .held) (dead : ∀ i : Fin 12, s.slots[i].live = false) :
    s.settleIfDecided = ({ s with
      mode := .settled, verdict := verdictOf s.lines, window := s.window.stop,
      failedCount := s.settledCount } : State).raised 0x008 := by
  have none : s.liveSlots = [] := by
    rw [State.liveSlots, indicesOf, List.filter_eq_nil_iff]
    exact fun i _ => by rw [dead i]; exact nofun
  rw [State.settleIfDecided, if_pos ⟨mode, (anyLine_eq_false _ _).2 decided⟩, State.settle_eq, none]
  rfl

theorem loadedClasses_eq (p : Policy) : loadedClasses p = tabulate fun c =>
    { disposition := p.dispositions[c], linkMask := p.linkMasks[c], attempts := 0, verifiedSlot := none,
      state := match p.dispositions[c] with | .unused => .unused | _ => .pending } := by
  refine congrArg tabulate (funext fun c => ?_)
  cases p.dispositions[c] <;> rfl

theorem failedClasses_loadedClasses (p : Policy) : failedClasses (loadedClasses p) = tabulate fun c =>
    { disposition := p.dispositions[c], linkMask := p.linkMasks[c], attempts := 0, verifiedSlot := none,
      state := match p.dispositions[c] with | .unused => .unused | _ => .failed } := by
  rw [loadedClasses_eq]
  refine congrArg tabulate (funext fun c => ?_)
  rw [tabulate_fin]
  cases p.dispositions[c] <;> rfl

theorem lockedLines_loadedLines (p : Policy) : lockedLines (loadedLines p) = tabulate fun i =>
    { need := p.need[i], soft := p.soft[i],
      state := if p.need[i] = 0 ∧ p.soft[i] = 0 then .disabled else .locked } := by
  refine congrArg tabulate (funext fun i => ?_)
  rw [loadedLines, tabulate_fin]
  by_cases empty : p.need[i] = 0 ∧ p.soft[i] = 0
  · simp only [if_pos empty]
    rfl
  · simp only [if_neg empty]
    rfl

/-- Lines whose masks are all empty are DISABLED, one and all (R115). -/
theorem loadedLines_disabled {p : Policy} (empty : ∀ i : Fin 6, p.need[i] = 0 ∧ p.soft[i] = 0)
    (used : LineState) : loadedLines p = tabulate fun i =>
      { need := p.need[i], soft := p.soft[i],
        state := if p.need[i] = 0 ∧ p.soft[i] = 0 then .disabled else used } := by
  refine congrArg tabulate (funext fun i => ?_)
  rw [if_pos (empty i), if_pos (empty i)]

/-- VERIFY as it is entered, before the part settles on lines that are all DISABLED (R128, R141). -/
theorem State.verifyEntered_raised (s : State) (p : Policy) : s.verifyEntered p = ({ s with
      mode := .verify, inForce := some p, classes := loadedClasses p, lines := loadedLines p
      window := { count := p.reload.toNat, reload := p.reload.toNat, prescale := p.prescale.toNat,
                  extMax := p.extMax.toNat, extUsed := 0, running := true,
                  toTick := some (2 ^ p.prescale.toNat * 1000) } } : State).raised
      (if p.reload = 0 then 0x010 else 0) := by
  have low : p.reload.toNat = (loadedWindow p).reload / 4 ↔ p.reload = 0 := by
    have quarter : p.reload.toNat = p.reload.toNat / 4 ↔ p.reload.toNat = (0 : Byte).toNat := by
      have zero : (0 : Byte).toNat = 0 := rfl
      omega
    exact quarter.trans BitVec.toNat_inj
  rw [State.verifyEntered, State.setCount_raised, if_congr low rfl rfl]
  rfl

end Sys2Proof.Machine

namespace Sys2Proof
open Machine

/-- Settles O42: VERIFY is entered with a line HELD or with none, or the limit is passed. -/
theorem closedPartStarts : Obligations.ClosedPartStarts := by
  intro s rest running passes burnt p loaded masked
  have outcome : exec .selftestComplete s = .next s.endSelfTest.commit := rfl
  have closed := State.endSelfTest_closed running passes burnt
  have pending : loadedClasses p = loaded .pending := loadedClasses_eq p
  refine ⟨fun within used => ?_, fun within empty dead => ?_, fun exceeds => ?_⟩
  · have entered : s.endSelfTest = (({ s with selfTest := false } : State).verifyEntered p).settleIfDecided :=
      closed.trans (if_neg within.not_gt)
    have held : ∃ i : Fin 6, (loadedLines p)[i].state = .held := by
      obtain ⟨i, named⟩ := used
      refine ⟨i, ?_⟩
      rw [loadedLines, tabulate_fin]
      exact if_neg fun ⟨need, soft⟩ => named.elim (fun h => h need) fun h => h soft
    rw [outcome, entered, State.verifyEntered_raised, State.settleIfDecided_held held, State.raised_commit,
      pending]
    rfl
  · have entered : s.endSelfTest = (({ s with selfTest := false } : State).verifyEntered p).settleIfDecided :=
      closed.trans (if_neg within.not_gt)
    have disabled (i : Fin 6) : (loadedLines p)[i].state = .disabled := by
      rw [loadedLines, tabulate_fin]
      exact if_pos (empty i)
    have undecided (i : Fin 6) : (loadedLines p)[i].state ≠ .held := by rw [disabled i]; exact nofun
    have blocked : verdictOf (loadedLines p) = .blocked :=
      if_neg (by rw [show (loadedLines p)[0].state = .disabled from disabled 0]; exact nofun)
    have bits : (if p.reload = 0 then 0x010 else 0 : Half) ||| 0x008 =
        if p.reload = 0 then 0x018 else 0x008 := by
      split <;> rfl
    let settled (verdict : Verdict) (count : Nat) : State := { s with
      selfTest := false, mode := .settled, verdict := verdict, inForce := some p
      classes := loadedClasses p, lines := loadedLines p, failedCount := count
      window := { count := p.reload.toNat, reload := p.reload.toNat, prescale := p.prescale.toNat,
                  extMax := p.extMax.toNat, extUsed := 0, running := false, toTick := none } }
    let entering : State := ({ s with
      selfTest := false, mode := .verify, inForce := some p
      classes := loadedClasses p, lines := loadedLines p
      window := { count := p.reload.toNat, reload := p.reload.toNat, prescale := p.prescale.toNat,
                  extMax := p.extMax.toNat, extUsed := 0, running := true,
                  toTick := some (2 ^ p.prescale.toNat * 1000) } } : State).raised
      (if p.reload = 0 then 0x010 else 0)
    have verifies : ({ s with selfTest := false } : State).verifyEntered p = entering :=
      State.verifyEntered_raised _ p
    have settles : entering.settleIfDecided = (settled (verdictOf (loadedLines p))
        (if verdictOf (loadedLines p) = .printReady then 0 else s.failedCount)).raised
        ((if p.reload = 0 then 0x010 else 0) ||| 0x008) :=
      (State.settleIfDecided_empty (s := entering) rfl undecided dead).trans
        (State.raised_raised (settled (verdictOf (loadedLines p))
          (if verdictOf (loadedLines p) = .printReady then 0 else s.failedCount))
          (if p.reload = 0 then 0x010 else 0) 0x008)
    have lines : loadedLines p = masked .disabled := loadedLines_disabled empty .disabled
    rw [outcome, entered, verifies, settles, State.raised_commit, bits, blocked, if_neg nofun]
    simp only [settled, pending, lines]
  · have entered : s.endSelfTest = ({ s with selfTest := false } : State).settleRetryLimit p :=
      closed.trans (if_pos exceeds)
    let settled : State := { s with
      selfTest := false, mode := .settled, verdict := .blocked, inForce := some p
      classes := failedClasses (loadedClasses p)
      lines := lockedLines (loadedLines p)
      faults := storeFault s.faults
        { stamp := s.bootClock, code := .retryLimit, link := none, slot := none, cls := none,
          seg := none, key := none,
          detail := [byteOf s.failedCount, p.maxRetry, 0, 0, 0, 0, 0, 0] } }
    have posted : ({ s with selfTest := false } : State).settleRetryLimit p = settled.raised 0x088 :=
      State.raised_raised settled 0x080 0x008
    have classes : failedClasses (loadedClasses p) = loaded .failed := failedClasses_loadedClasses p
    have lines : lockedLines (loadedLines p) = masked .locked := lockedLines_loadedLines p
    rw [outcome, entered, posted, State.raised_commit]
    simp only [settled, classes, lines]

end Sys2Proof

namespace Sys2Proof.Machine

/-! ### Ticks and the boot clock -/

theorem State.expire_window (s : State) : s.expire.window = s.window.stop := by
  have stopped : s.expiring.window = s.window.stop := by
    rw [State.expiring, (State.moveClasses_same _ _).2.2.2.2.2.2.2, State.rejectAll_window]
    rfl
  rw [s.expire_eq, State.settleIfDecided]
  split
  · rw [State.settle_window, State.moveLines_window, stopped]
    rfl
  · rw [State.moveLines_window, stopped]

/-- A tick taken leaves no tick due (R129, R137). -/
theorem State.tick_not_due (s : State) : s.tick.window.tickDue = false := by
  rcases s.tick_cases with ⟨still, e⟩ | ⟨-, -, e⟩ | ⟨-, -, e⟩ <;> rw [e]
  · exact still
  · rw [State.expire_window]
    rfl
  · exact State.setCount_not_due _ _ _

theorem Window.tickDue_eq_false {w : Window} (notDue : ¬(w.running = true ∧ w.toTick = some 0)) :
    w.tickDue = false := by
  rw [← Bool.not_eq_true, Window.tickDue, Bool.and_eq_true, beq_iff_eq]
  exact notDue

end Sys2Proof.Machine

namespace Sys2Proof
open Machine

/-- Settles O43: a tick that is due is taken before the microsecond, and none is due behind it. -/
theorem timeBaseAdvances : Obligations.TimeBaseAdvances := by
  intro s rest due
  have tickOutcome : exec .bootWindowTick s = .next s.tick.commit := rfl
  have clockOutcome (u : State) : exec .bootClockMicrosecond u = .next u.clockRises.commit := rfl
  refine ⟨fun isDue above => ?_, fun notDue => ?_, fun supplied notDue => ?_, fun supplied isDue => ?_⟩
  · have counts : s.tick = s.setCount s.window (s.window.count - 1) := by
      rw [State.tick, if_pos (s.window.tickDue_iff.2 isDue), if_neg (by omega)]
    rw [tickOutcome, counts, State.setCount_commit]
  · have still := Window.tickDue_eq_false notDue
    have unexpired : s.expiryTick = s := if_neg fun ⟨h, _⟩ => by rw [still] at h; cases h
    have expiryOutcome : exec .bootWindowExpiry s = .next s.expiryTick.commit := rfl
    rw [tickOutcome, expiryOutcome, State.tick_still still, unexpired, State.commit_of_atRest rest]
    exact ⟨rfl, rfl⟩
  · have rises : s.clockRises = { s with
        bootClock := s.bootClock + 1
        window := { s.window with toTick := s.window.toTick.map fun n => n - 1 } } := by
      rw [State.clockRises, if_neg (by rw [supplied]; exact nofun), Window.tickDue_eq_false notDue]
      rfl
    have clock : s.bootClock + 1 = BitVec.ofNat 48 ((s.bootClock.toNat + 1) % 2 ^ 48) :=
      BitVec.eq_of_toNat_eq (by simp)
    rw [clockOutcome, rises, ← clock]
    exact congrArg Host.Outcome.next (State.commit_of_atRest (rest.same rfl rfl rfl rfl))
  · refine ⟨s.tick.commit, tickOutcome, ?_⟩
    have isDue : s.window.tickDue = true := s.window.tickDue_iff.2 isDue
    have quiet : s.tick.commit.supplyLow = false := s.tick_quiet.supply.trans supplied
    have taken : s.tick.commit.window.tickDue = false := s.tick_not_due
    rw [clockOutcome, clockOutcome, State.clockRises, State.clockRises, isDue, quiet, taken, supplied]
    rfl

end Sys2Proof
end

section
/-! SUPPORT. A fuse row as a burn leaves it, and the ends of an operation (R86, R89, R92 to R94, R98, R102). -/

namespace Sys2Proof.Machine

/-! ### The row after a burn -/

theorem foldl_or_getLsbD {w : Nat} (bit : Nat → BitVec w) (list : List Nat) (row : BitVec w) (k : Nat) :
    (list.foldl (fun r i => r ||| bit i) row).getLsbD k =
      (row.getLsbD k || list.any fun i => (bit i).getLsbD k) := by
  induction list generalizing row with
  | nil => simp
  | cons i rest ih => rw [List.foldl_cons, ih, BitVec.getLsbD_or, List.any_cons, Bool.or_assoc]

/-- Burning fuses of one row changes that row alone (R89). -/
theorem foldl_burnFuse {w : Nat} {kind : FuseKind} (place : BitVec w → Fuses) (bit : Nat → BitVec w)
    (burn : ∀ row i, burnFuse (place row) kind i = place (row ||| bit i)) (list : List Nat)
    (row : BitVec w) :
    list.foldl (fun g i => burnFuse g kind i) (place row) =
      place (list.foldl (fun r i => r ||| bit i) row) := by
  induction list generalizing row with
  | nil => rfl
  | cons i rest ih => rw [List.foldl_cons, burn, ih, List.foldl_cons]

/-- A row whose bits are numbered from `first` reads, after a burn, what `RowAfter` says (R93). -/
theorem arrayAfterBurn_eq {w first : Nat} {op : FuseOp} {took : Bool} {strays : List Nat}
    (place : BitVec w → Fuses) (bit : Nat → BitVec w) {row after : BitVec w}
    (burn : ∀ row i, burnFuse (place row) op.kind i = place (row ||| bit i))
    (bits : ∀ i k, k < w → (bit i).getLsbD k = decide (k + first = i))
    (reads : RowAfter row after first op.fuse took strays) :
    arrayAfterBurn (place row) op took strays = place after := by
  have start : (if took then burnFuse (place row) op.kind op.fuse else place row) =
      place (if took then row ||| bit op.fuse else row) := by
    cases took
    · rfl
    · exact burn row op.fuse
  rw [arrayAfterBurn, start, foldl_burnFuse place bit burn]
  refine congrArg place (BitVec.eq_of_getLsbD_eq fun k inside => ?_)
  have own : (if took then row ||| bit op.fuse else row).getLsbD k =
      (row.getLsbD k || (took && decide (k + first = op.fuse))) := by
    cases took
    · simp
    · rw [if_pos rfl, BitVec.getLsbD_or, bits _ k inside, Bool.true_and]
  have stray : ((strays.filter fun i => i != op.fuse).any fun i => (bit i).getLsbD k) =
      decide (k + first ∈ strays ∧ k + first ≠ op.fuse) := by
    rw [Bool.eq_iff_iff, List.any_eq_true, decide_eq_true_iff]
    constructor
    · rintro ⟨i, mem, set⟩
      rw [bits i k inside, decide_eq_true_iff] at set
      obtain ⟨mem, other⟩ := List.mem_filter.1 mem
      subst set
      exact ⟨mem, bne_iff_ne.1 other⟩
    · rintro ⟨mem, other⟩
      exact ⟨k + first, List.mem_filter.2 ⟨mem, bne_iff_ne.2 other⟩, by
        rw [bits _ k inside, decide_eq_true rfl]⟩
  rw [foldl_or_getLsbD, own, stray, reads k inside]

/-- A fuse of a row numbered from 0. -/
theorem twoPow_getLsbD {w : Nat} (i k : Nat) (inside : k < w) :
    (BitVec.twoPow w i).getLsbD k = decide (k + 0 = i) := by
  rw [BitVec.getLsbD_twoPow]
  by_cases same : k = i
  · subst same
    simp [inside]
  · have other : i ≠ k := fun h => same h.symm
    simp [same, other]

theorem floorFuse_getLsbD (i k : Nat) (inside : k < 63) : (floorFuse i).getLsbD k = decide (k + 1 = i) := by
  rw [floorFuse]
  split
  next zero => subst zero; simp
  next positive =>
    rw [twoPow_getLsbD _ _ inside]
    exact decide_eq_decide.2 (by omega)

section
variable {f : Fuses} {op : FuseOp} {took : Bool} {strays : List Nat}

theorem arrayAfterBurn_floor {i : Fin 12} {c : Fin 8} {target : Nat} {after : BitVec 63}
    (kind : op.kind = .floor i c target) (reads : RowAfter f.floors[c] after 1 op.fuse took strays) :
    arrayAfterBurn f op took strays = { f with floors := put f.floors c after } := by
  have burnt := arrayAfterBurn_eq (fun row => { f with floors := put f.floors c row }) floorFuse
    (fun row i => by rw [kind, burnFuse, put_fin_self, put_put]) floorFuse_getLsbD reads
  have same : put f.floors c f.floors[c] = f.floors := put_self _ _
  rwa [same] at burnt

theorem arrayAfterBurn_revoke {target : Fin 10} {before after : BitVec 10}
    (kind : op.kind = .revoke target before) (reads : RowAfter f.revoke after 0 op.fuse took strays) :
    arrayAfterBurn f op took strays = { f with revoke := after } :=
  arrayAfterBurn_eq (fun row => { f with revoke := row }) (BitVec.twoPow 10)
    (fun row i => by rw [kind, burnFuse]) twoPow_getLsbD reads

theorem arrayAfterBurn_enroll {e : Fin 8} {after : BitVec 585} (kind : op.kind = .enroll e)
    (reads : RowAfter f.entries[e] after 0 op.fuse took strays) :
    arrayAfterBurn f op took strays = { f with entries := put f.entries e after } := by
  have burnt := arrayAfterBurn_eq (fun row => { f with entries := put f.entries e row })
    (BitVec.twoPow 585) (fun row i => by rw [kind, burnFuse, put_fin_self, put_put]) twoPow_getLsbD reads
  have same : put f.entries e f.entries[e] = f.entries := put_self _ _
  rwa [same] at burnt

theorem arrayAfterBurn_close {after : BitVec 281} (kind : op.kind = .close)
    (reads : RowAfter f.closing after 0 op.fuse took strays) :
    arrayAfterBurn f op took strays = { f with closing := after } :=
  arrayAfterBurn_eq (fun row => { f with closing := row }) (BitVec.twoPow 281)
    (fun row i => by rw [kind, burnFuse]) twoPow_getLsbD reads

end

/-! ### The end of a burn -/

section
variable {s : State} {op : FuseOp} (running : s.fuseOp = some op) {took : Bool} {strays : List Nat}
  {fuses : Fuses} (reads : arrayAfterBurn s.fuses op took strays = fuses)
include running reads

theorem State.finishBurn_goesOn (good : readBackGood fuses op = true)
    (more : op.position + 1 < op.burnList.length) : s.finishBurn took strays =
      { s with fuses := fuses, fuseOp := some { op with position := op.position + 1 } } := by
  simp only [State.finishBurn, running, reads, good, more, if_true]

theorem State.finishBurn_ends (good : readBackGood fuses op = true)
    (last : op.position + 1 = op.burnList.length) : s.finishBurn took strays =
      ({ s with fuses := fuses } : State).endOperation op := by
  simp only [State.finishBurn, running, reads, good, last, if_true, Nat.lt_irrefl, if_false]

theorem State.finishBurn_fails (bad : readBackGood fuses op = false) : s.finishBurn took strays =
    ({ s with fuses := fuses } : State).failOperation op := by
  simp only [State.finishBurn, running, reads, bad, Bool.false_eq_true, if_false]

end

/-- A read-back failure, its fault record given (R93). -/
def State.burnFault (s : State) (r : FaultRecord) : State :=
  ({ s with fuseOp := none, faults := storeFault s.faults { r with stamp := s.bootClock } } :
    State).raised 0x0C0

section
variable (s : State) {op : FuseOp}

theorem State.recordFault_fuseDone (r : FaultRecord) :
    (({ s with fuseOp := none } : State).recordFault r).post .fuseDone = s.burnFault r :=
  State.raised_raised _ 0x080 0x040

theorem State.failOperation_floor {i : Fin 12} {c : Fin 8} {target : Nat}
    (kind : op.kind = .floor i c target) : s.failOperation op = s.burnFault
      { faultOf .fuseFault [byteOf op.fuse, byteOf (s.floor c), byteOf target] with
        link := some op.link, slot := some i, cls := some c } := by
  simp only [State.failOperation, State.recordFault_fuseDone, State.fuseFaultRecord, kind]

theorem State.failOperation_enroll {e : Fin 8} (kind : op.kind = .enroll e) :
    s.failOperation op = s.burnFault
      { faultOf .fuseFault (leBytes 2 (op.position + 1) ++ leBytes 2 (firstWrong
          (wrongFuses 585 op.burnList op.position activeFuse s.fuses.entries[e]))) with
        link := some op.link, key := some (keyOfEntry e) } := by
  simp only [State.failOperation, State.recordFault_fuseDone, State.fuseFaultRecord, kind]

theorem State.failOperation_close (kind : op.kind = .close) : s.failOperation op =
    if s.closedBurnt then
      (s.burnFault { faultOf .fuseFault (leBytes 2 op.fuse) with link := some op.link }).warmReset
        .provisionClose
    else s.burnFault { faultOf .fuseFault (leBytes 2 op.fuse) with link := some op.link } := by
  simp only [State.failOperation, State.recordFault_fuseDone, State.fuseFaultRecord, kind]
  rfl

end

theorem readBackGood_floor {f : Nat} {fuses : Fuses} {op : FuseOp} {i : Fin 12} {c : Fin 8} {target : Nat}
    (kind : op.kind = .floor i c target) (under : op.fuse = f) :
    readBackGood fuses op = true ↔ ∀ k : Nat, k < 63 → fuses.floors[c].getLsbD k = decide (k < f) := by
  rw [readBackGood, kind]
  simp only [under, beq_iff_eq]
  constructor
  · intro same k inside
    rw [same, thermometer_getLsbD, decide_eq_true inside, Bool.true_and]
  · exact fun bits => BitVec.eq_of_getLsbD_eq fun k inside => by
      rw [bits k inside, thermometer_getLsbD, decide_eq_true inside, Bool.true_and]

end Sys2Proof.Machine

namespace Sys2Proof
open Machine

/-- Settles O37: the row reads as `RowAfter` has it, and the read-back compares it with a thermometer. -/
theorem floorBurnCompletes : Obligations.FloorBurnCompletes := by
  intro s i c T n f list l took strays after rest running listed _ _ reads fuses good
  set op : FuseOp := { kind := .floor i c T, burnList := list, position := n, link := l } with hop
  have under : op.fuse = f := by
    rw [FuseOp.fuse, List.getD_eq_getElem?_getD, listed]
    rfl
  have array : arrayAfterBurn s.fuses op took strays = fuses :=
    arrayAfterBurn_floor rfl (under ▸ reads)
  have here : fuses.floors[c] = after := put_fin_self _ _ _
  have comparison : readBackGood fuses op = true ↔ good := by
    rw [readBackGood_floor (op := op) rfl under, here]
  have outcome : exec (.fuseBurnComplete took strays) s = .next (s.finishBurn took strays).commit := rfl
  refine ⟨fun h more => ?_, fun h last => ?_, fun h => ?_⟩
  · rw [outcome, State.finishBurn_goesOn running array (comparison.2 h) more]
    exact congrArg Host.Outcome.next (State.commit_of_atRest (rest.same rfl rfl rfl rfl))
  · rw [outcome, State.finishBurn_ends running array (comparison.2 h) last]
    rfl
  · have bad : readBackGood fuses op = false := Bool.eq_false_iff.2 fun g => h (comparison.1 g)
    have floor : ({ s with fuses := fuses } : State).floor c =
        (List.range 63).countP fun k => after.getLsbD k := congrArg burntCount here
    rw [outcome, State.finishBurn_fails running array bad, State.failOperation_floor (op := op) _ rfl, floor,
      under, State.burnFault, State.raised_commit]
    rfl

end Sys2Proof

namespace Sys2Proof.Machine

/-! ### Rows read wrong -/

theorem fuseMask_getLsbD {w : Nat} (list : List Nat) {k : Nat} (inside : k < w) :
    (fuseMask w list).getLsbD k = decide (k ∈ list) := by
  rw [fuseMask, foldl_or_getLsbD, Bool.eq_iff_iff, Bool.or_eq_true, List.any_eq_true, decide_eq_true_iff]
  have zero : (0 : BitVec w).getLsbD k = false := BitVec.getLsbD_zero
  simp only [twoPow_getLsbD _ _ inside, decide_eq_true_iff, zero, Nat.add_zero]
  simp

/-- Bit `k` of the fuses read wrong (R86, R102). -/
theorem wrongFuses_getLsbD {w : Nat} (list : List Nat) (n last : Nat) (row : BitVec w) {k : Nat}
    (inside : k < w) : (wrongFuses w list n last row).getLsbD k = true ↔ FuseWrong row list n last k := by
  have closing : (if n + 1 < list.length then row &&& BitVec.twoPow w last else 0).getLsbD k = true ↔
      n + 1 < list.length ∧ k = last ∧ row.getLsbD k = true := by
    split
    next more =>
      rw [BitVec.getLsbD_and, twoPow_getLsbD _ _ inside, Bool.and_eq_true, decide_eq_true_iff, Nat.add_zero]
      exact ⟨fun ⟨burnt, here⟩ => ⟨more, here, burnt⟩, fun ⟨_, here, burnt⟩ => ⟨burnt, here⟩⟩
    next done =>
      have zero : (0 : BitVec w).getLsbD k = false := BitVec.getLsbD_zero
      rw [zero]
      exact ⟨nofun, fun ⟨more, _⟩ => absurd more done⟩
  rw [wrongFuses, BitVec.getLsbD_or, BitVec.getLsbD_or, BitVec.getLsbD_and, BitVec.getLsbD_and,
    BitVec.getLsbD_not, BitVec.getLsbD_not, fuseMask_getLsbD _ inside, fuseMask_getLsbD _ inside,
    decide_eq_true inside, Bool.true_and, Bool.true_and, Bool.or_eq_true, Bool.or_eq_true, closing,
    Bool.and_eq_true, Bool.and_eq_true, decide_eq_true_iff, Bool.not_eq_true', Bool.not_eq_true',
    decide_eq_false_iff_not, FuseWrong, or_assoc, and_comm (a := row.getLsbD k = true) (b := k ∉ list)]

theorem wrongFuses_eq_zero {w : Nat} (list : List Nat) (n last : Nat) (row : BitVec w) :
    wrongFuses w list n last row = 0 ↔ ∀ k, ¬(k < w ∧ FuseWrong row list n last k) := by
  constructor
  · rintro zero k ⟨inside, wrong⟩
    have set := (wrongFuses_getLsbD list n last row inside).2 wrong
    have clear : (0 : BitVec w).getLsbD k = false := BitVec.getLsbD_zero
    rw [zero, clear] at set
    cases set
  · intro right
    refine BitVec.eq_of_getLsbD_eq fun k inside => ?_
    have clear : (0 : BitVec w).getLsbD k = false := BitVec.getLsbD_zero
    rw [clear, ← Bool.not_eq_true, wrongFuses_getLsbD list n last row inside]
    exact fun wrong => right k ⟨inside, wrong⟩

theorem firstWrong_eq {w : Nat} {list : List Nat} {n last : Nat} {row : BitVec w} {k : Nat}
    (wrong : k < w ∧ FuseWrong row list n last k)
    (first : ∀ m, m < k → ¬(m < w ∧ FuseWrong row list n last m)) :
    firstWrong (wrongFuses w list n last row) = k := by
  obtain ⟨inside, here⟩ := wrong
  have found : ((List.range w).find? fun i => (wrongFuses w list n last row).getLsbD i) = some k := by
    rw [List.find?_range_eq_some]
    refine ⟨(wrongFuses_getLsbD list n last row inside).2 here, List.mem_range.2 inside, fun m less => ?_⟩
    have right := first m less
    rw [Bool.not_eq_true', ← Bool.not_eq_true,
      wrongFuses_getLsbD list n last row (less.trans inside)]
    exact fun h => right ⟨less.trans inside, h⟩
  rw [firstWrong, found]
  rfl

/-- A row without a wrong fuse behind the last burn reads its burn list (R87). -/
theorem getLsbD_of_right {w : Nat} {list : List Nat} {n last : Nat} {row : BitVec w}
    (right : ∀ k, ¬(k < w ∧ FuseWrong row list n last k)) (done : n + 1 = list.length) {k : Nat}
    (inside : k < w) : row.getLsbD k = decide (k ∈ list) := by
  have whole : list.take (n + 1) = list := by rw [done, List.take_length]
  have here := right k
  rw [FuseWrong, whole] at here
  by_cases listed : k ∈ list
  · rw [decide_eq_true listed, ← Bool.not_eq_false]
    exact fun clear => here ⟨inside, .inl ⟨listed, clear⟩⟩
  · rw [decide_eq_false listed, ← Bool.not_eq_true]
    exact fun set => here ⟨inside, .inr (.inl ⟨listed, set⟩)⟩

end Sys2Proof.Machine

namespace Sys2Proof
open Machine

/-- Settles O39: the read-back counts the wrong fuses of the row as `RowAfter` has it. -/
theorem enrolmentAndCloseEnd : Obligations.EnrolmentAndCloseEnd := by
  intro s list n f l took strays rest listed command
  have outcome : exec command s = .next (s.finishBurn took strays).commit := rfl
  have under (op : FuseOp) (burns : op.burnList = list) (at_ : op.position = n) : op.fuse = f := by
    rw [FuseOp.fuse, burns, at_, List.getD_eq_getElem?_getD, listed]
    rfl
  refine ⟨?_, ?_⟩
  · intro e after running reads fuses wrong
    set op : FuseOp := { kind := .enroll e, burnList := list, position := n, link := l } with hop
    have array : arrayAfterBurn s.fuses op took strays = fuses :=
      arrayAfterBurn_enroll rfl ((under op rfl rfl).symm ▸ reads)
    have here : fuses.entries[e] = after := put_fin_self _ _ _
    have comparison : readBackGood fuses op = true ↔ ∀ k, ¬wrong k := by
      rw [← wrongFuses_eq_zero, ← here]
      exact beq_iff_eq
    refine ⟨fun right more => ?_, fun right last => ⟨?_, fun k inside => getLsbD_of_right right last inside,
      fun active unrevoked => ?_⟩, fun k isWrong first => ?_⟩
    · rw [outcome, State.finishBurn_goesOn running array (comparison.2 right) more]
      exact congrArg Host.Outcome.next (State.commit_of_atRest (rest.same rfl rfl rfl rfl))
    · rw [outcome, State.finishBurn_ends running array (comparison.2 right) last]
      rfl
    · have burnt : fuses.entries[e].getLsbD activeFuse = true := by
        rw [here, activeFuse, getLsbD_of_right right last (by decide), decide_eq_true active]
      have clear : ({ s with fuses := fuses } : State).revokeBurnt (keyOfEntry e) = false := unrevoked
      simp only [State.keyState, clear, otpEntry_keyOfEntry, Bool.false_eq_true, if_false, burnt, if_true]
    · have bad : readBackGood fuses op = false :=
        Bool.eq_false_iff.2 fun g => comparison.1 g k isWrong
      have first : firstWrong (wrongFuses 585 list n activeFuse fuses.entries[e]) = k := by
        rw [here]
        exact firstWrong_eq isWrong first
      rw [outcome, State.finishBurn_fails running array bad, State.failOperation_enroll (op := op) _ rfl]
      dsimp only [op]
      rw [first, State.burnFault, State.raised_commit]
      rfl
  · intro after running reads fuses wrong faulted reset
    set op : FuseOp := { kind := .close, burnList := list, position := n, link := l } with hop
    have array : arrayAfterBurn s.fuses op took strays = fuses :=
      arrayAfterBurn_close rfl ((under op rfl rfl).symm ▸ reads)
    have comparison : readBackGood fuses op = true ↔ ∀ k, ¬wrong k := by
      rw [← wrongFuses_eq_zero]
      exact beq_iff_eq
    have resets (faults : Vector FaultRecord 4) (t : State) (kept : t = { s with
        fuses := fuses, fuseOp := none, faults := faults, linkM := t.linkM, linkE := t.linkE })
        (ends : s.finishBurn took strays = t.warmReset .provisionClose) : reset faults := by
      have idle : t.fuseOp = none := by rw [kept]
      obtain ⟨array, count⟩ := State.interruptBurn_idle idle
      change exec command s = _
      rw [outcome, ends, State.warmReset_commit, State.warmReset_eq, array, count, kept]
      rfl
    have failed : (∃ k, wrong k) → s.finishBurn took strays =
        ({ s with fuses := fuses } : State).failOperation op := fun ⟨k, isWrong⟩ =>
      State.finishBurn_fails running array (Bool.eq_false_iff.2 fun g => comparison.1 g k isWrong)
    rw [State.failOperation_close (op := op) _ rfl, under op rfl rfl] at failed
    refine ⟨fun right more => ?_, fun right last => ?_, fun isWrong open_ => ?_, fun isWrong closed => ?_⟩
    · rw [outcome, State.finishBurn_goesOn running array (comparison.2 right) more]
      exact congrArg Host.Outcome.next (State.commit_of_atRest (rest.same rfl rfl rfl rfl))
    · exact resets s.faults _ rfl (State.finishBurn_ends running array (comparison.2 right) last)
    · have unburnt : ({ s with fuses := fuses } : State).closedBurnt = false := open_
      rw [outcome, failed isWrong, unburnt, if_neg nofun, State.burnFault, State.raised_commit]
      rfl
    · have burnt : ({ s with fuses := fuses } : State).closedBurnt = true := closed
      rw [burnt, if_pos rfl] at failed
      exact resets faulted _ rfl (failed isWrong)

end Sys2Proof
end

section
/-! SUPPORT. The bytes of a frame and what they spell (R168, Table 11-1). -/

namespace Sys2Proof.Machine

theorem kindOf_kindCode (k : Kind) : kindOf (kindCode k) = some k := by cases k <;> rfl

/-- A complete frame is read back from its bytes. -/
theorem frameOfBytes_frameBytes {f : Frame} (fits : f.payload.length ≤ 1038) :
    frameOfBytes (frameBytes f) = some f := by
  have whole : frameBytes f =
      0xA5 :: (leBytes 2 (frameLen f) ++ (f.kind :: f.tag :: (f.payload ++ leBytes 2 f.crc.toNat))) := by
    simp [frameBytes]
  have len : leNat (slice (frameBytes f) 1 2) = frameLen f := by
    have here : slice (frameBytes f) 1 2 = leBytes 2 (frameLen f) := by rw [whole]; rfl
    rw [here, leNat_two (by rw [frameLen]; omega)]
  have length : (frameBytes f).length = frameLen f + 5 := by
    rw [whole, frameLen]
    simp [leBytes]
    omega
  have ok : lenOk (frameLen f) = true := by
    rw [lenOk, frameLen, maxLen]
    simp
    omega
  have body : (frameBytes f).drop 5 = f.payload ++ leBytes 2 f.crc.toNat := by rw [whole]; rfl
  have payload : slice (frameBytes f) 5 (frameLen f - 2) = f.payload := by
    rw [slice, body, frameLen, Nat.add_sub_cancel_left]
    exact List.take_left' rfl
  have crc : leNat (slice (frameBytes f) (frameLen f + 3) 2) = f.crc.toNat := by
    have at_ : slice (frameBytes f) (frameLen f + 3) 2 = leBytes 2 f.crc.toNat := by
      rw [slice, show frameLen f + 3 = 5 + f.payload.length by rw [frameLen]; omega, ← List.drop_drop, body,
        List.drop_left' rfl]
      rfl
    rw [at_, leNat_two f.crc.isLt]
  have sync : byteAt (frameBytes f) 0 = 0xA5 ∧ byteAt (frameBytes f) 3 = f.kind ∧
      byteAt (frameBytes f) 4 = f.tag := by rw [whole]; exact ⟨rfl, rfl, rfl⟩
  obtain ⟨first, kind, tag⟩ := sync
  have spelled : BitVec.ofNat 16 f.crc.toNat = f.crc := BitVec.ofNat_toNat 16 f.crc
  simp only [frameOfBytes, len, first, ok, length, and_self, if_true, kind, tag, payload, crc, spelled]

end Sys2Proof.Machine

namespace Sys2Proof
open Machine

/-- Settles O56: the frame is read back whole, and its KIND says which command it is. -/
theorem frameBytesSpellCommand : Obligations.FrameBytesSpellCommand := by
  refine ⟨fun l k q fits => ?_, fun l f fits unknown => ?_⟩
  · have known : kindOf (requestFrame k q).kind = some k := kindOf_kindCode k
    simp only [commandOfBytes, frameOfBytes_frameBytes (f := requestFrame k q) fits, Option.map_some, known]
    rfl
  · have none : kindOf f.kind = none := kindOf_eq_none unknown
    simp only [commandOfBytes, frameOfBytes_frameBytes fits, Option.map_some, none]

end Sys2Proof
end

section
/-! SUPPORT. Frames that are held, lost or broken (R152, R171, R173, R174, R176 to R178). -/

namespace Sys2Proof.Machine

/-! ### The close of an event on one link -/

/-- An event that leaves Link M at rest closes on Link E alone. -/
theorem State.commit_closesE {s : State} (rest : s.linkM.AtRest) :
    s.commit = State.drive { s with linkE := s.linkE.close } := by
  rw [State.commit, LinkState.close_of_atRest rest]

/-- An event that leaves Link E at rest closes on Link M alone. -/
theorem State.commit_closesM {s : State} (rest : s.linkE.AtRest) :
    s.commit = State.drive { s with linkM := s.linkM.close } := by
  rw [State.commit, LinkState.close_of_atRest rest]

/-- A link at rest is so whatever is received or held on it. -/
theorem LinkState.AtRest.received {x : LinkState} (rest : x.AtRest) (rx : RxState) (held : List Frame) :
    ({ x with rx := rx, held := held } : LinkState).AtRest := ⟨rest.parked, rest.sending⟩

theorem lenOk_frameLen {f : Frame} (fits : f.payload.length ≤ 1038) : lenOk (frameLen f) = true := by
  rw [lenOk_iff, frameLen]
  omega

/-! ### Link E -/

/-- A frame that arrives on Link E behind another, behind a reply or behind a RESTART is held or discarded,
whatever it is (R152, R178). -/
theorem State.arriveE_busy {s : State} (awake : s.deaf = false) {f : Frame}
    (fits : f.payload.length ≤ 1038)
    (busy : s.linkE.ordinary ≠ none ∨ s.linkE.held ≠ [] ∨ s.restartPending = true)
    (take : State → State) : s.arriveE take f = (s.hunt .e).holdFrame f := by
  have waits : s.freeE = false := by
    rw [← Bool.not_eq_true, State.freeE, Bool.and_eq_true, Bool.and_eq_true, Option.isNone_iff_eq_none,
      List.isEmpty_iff, Bool.not_eq_true']
    rintro ⟨⟨unsent, empty⟩, running⟩
    rcases busy with h | h | h
    · exact h unsent
    · exact h empty
    · rw [running] at h
      cases h
  simp only [State.arriveE, awake, lenOk_frameLen fits, waits, Bool.false_eq_true, if_false, if_true]

/-! ### Link M -/

theorem State.frameWindow_same (s : State) :
    s.frameWindow.linkM = s.linkM ∧ s.frameWindow.linkE = s.linkE ∧
      s.frameWindow.restartPending = s.restartPending := by
  unfold State.frameWindow
  split <;> exact ⟨rfl, rfl, rfl⟩

/-- The warm reset of a RESTART in a window of Link M (R150, R152, R173). -/
theorem State.warmReset_restarted {s : State} (awake : s.deaf = false) (m : LinkState) {spi : SpiWindow}
    (window : spi ≠ .shut) (ignored : Bool) :
    ∃ (fuses : Fuses) (count : Nat), s.BurnStops fuses count ∧
      State.warmReset { s with linkM := m, spi := spi, windowIgnored := ignored } .restart =
        s.restarted spi fuses count := by
  obtain ⟨high, supplied⟩ := Bool.or_eq_false_iff.1 awake
  refine ⟨_, _, State.interruptBurn_stops { s with linkM := m, spi := spi, windowIgnored := ignored }, ?_⟩
  obtain ⟨u, hu⟩ : ∃ u : State, u = { s with linkM := m, spi := spi, windowIgnored := ignored } := ⟨_, rfl⟩
  have resetN : u.resetNLow = false := hu ▸ high
  have supply : u.supplyLow = false := hu ▸ supplied
  have heard : u.deaf = false := hu ▸ awake
  have open_ : decide (u.spi ≠ .shut) = true := decide_eq_true (hu ▸ window)
  rw [← hu, State.warmReset_eq, resetN, supply, heard, open_, hu]
  rfl

/-- The restarted part is at rest in whatever its window stands (R172, R173). -/
theorem State.restarted_commit (s : State) (spi : SpiWindow) (fuses : Fuses) (count : Nat) :
    (s.restarted spi fuses count).commit = s.restarted spi fuses count := by
  refine State.commit_of_atRest (State.atRest_of_cold rfl rfl rfl rfl ?_)
  have ignored : (s.restarted spi fuses count).windowIgnored = true := rfl
  rw [State.drivesSdo, ignored, Bool.not_true, Bool.and_false, Bool.false_and]

/-- The SYNC of a request window over an unread reply (R174, R176). -/
def State.synced (s : State) : State :=
  { s with
    spi := .request
    linkM := { s.linkM with
      rx := .assembling [0xA5], ordinary := none
      sending := if s.linkM.waitReply.isSome then some .wait else none
      flags := s.linkM.flags ||| 0x100 } }

theorem State.sync_unread {s : State} (unread : s.linkM.ordinary ≠ none) :
    s.sync = if s.restartPending then s.synced.warmReset .restart else s.synced := by
  have some_ : s.linkM.ordinary.isSome = true := Option.isSome_iff_ne_none.2 unread
  simp only [State.sync, some_, if_true]
  rfl

theorem State.sync_read {s : State} (read : s.linkM.ordinary = none) :
    s.sync = { s with spi := .request, linkM := { s.linkM with rx := .assembling [0xA5] } } := by
  rw [State.sync]
  exact if_neg (by rw [read]; exact nofun)

theorem State.windowSync_read {s : State} (read : s.linkM.ordinary = none) : s.windowSync = s :=
  if_neg (by rw [read]; exact nofun)

theorem State.windowSync_unread {s : State} (unread : s.linkM.ordinary ≠ none) :
    s.windowSync = s.sync.commit := if_pos (Option.isSome_iff_ne_none.2 unread)

section
variable {s : State} (awake : s.deaf = false) (kept : s.windowLost = false)
include awake kept

/-- The end of a frame in a window of Link M that finds no reply unread (R152, R174). -/
theorem State.inWindow_read (read : s.linkM.ordinary = none) (rest : State → State) :
    s.inWindow rest = if s.restartPending then (s.hunt .m).spendWindow .m
      else rest ((s.hunt .m).spendWindow .m) := by
  obtain ⟨taken, heard, -⟩ := State.frameWindow_taken kept awake
  obtain ⟨linkM, -, restart⟩ := s.frameWindow_same
  have still : s.frameWindow.windowSync = s.frameWindow :=
    State.windowSync_read (by rw [linkM]; exact read)
  have spent : (s.frameWindow.hunt .m).spendWindow .m = (s.hunt .m).spendWindow .m := by
    unfold State.frameWindow
    split <;> rfl
  rcases s.inWindow_cases rest with ⟨lost | held, -⟩ | ⟨-, -, e⟩
  · cases taken.symm.trans lost
  · cases heard.symm.trans held
  · rw [e, still]
    simp only [taken, restart, spent, Bool.false_eq_true, if_false]

/-- Its SYNC over the reply to a RESTART takes the warm reset, and the frame is lost (R152, R176). -/
theorem State.inWindow_restart (unread : s.linkM.ordinary ≠ none) (running : s.restartPending = true)
    : ∃ (fuses : Fuses) (count : Nat), s.BurnStops fuses count ∧
      ∀ rest, s.inWindow rest = s.restarted .spent fuses count := by
  obtain ⟨taken, heard, -⟩ := State.frameWindow_taken kept awake
  obtain ⟨linkM, -, restart⟩ := s.frameWindow_same
  have sync : s.frameWindow.windowSync = (s.frameWindow.synced.warmReset .restart).commit := by
    rw [State.windowSync_unread (by rw [linkM]; exact unread),
      State.sync_unread (by rw [linkM]; exact unread), restart, running, if_pos rfl]
  have begun : ∃ m ignored, s.frameWindow.synced =
      { s with linkM := m, spi := .request, windowIgnored := ignored } := by
    unfold State.frameWindow
    split <;> exact ⟨_, _, rfl⟩
  obtain ⟨m, ignored, begun⟩ := begun
  obtain ⟨fuses, count, stops, reset⟩ := State.warmReset_restarted awake m (spi := .request) nofun ignored
  refine ⟨fuses, count, stops, fun rest => ?_⟩
  rcases s.inWindow_cases rest with ⟨lost | held, -⟩ | ⟨-, -, e⟩
  · cases taken.symm.trans lost
  · cases heard.symm.trans held
  · rw [e, sync, begun, reset, State.restarted_commit]
    rfl

end

end Sys2Proof.Machine

namespace Sys2Proof
open Machine

/-- Settles O48: what arrives on a busy Link E is held or discarded, and a window of Link M behind a RESTART
takes nothing. -/
theorem framesAreHeld : Obligations.FramesAreHeld := by
  intro s f rest awake fits
  have frameOutcome (l : Link) :
      exec (.badKindFrame l f) s = .next (s.arrive l (takeFrame l f) f).commit := rfl
  have heldOutcome : exec (.frameHeld f) s = .next (s.arriveE (takeFrame .e f) f).commit := rfl
  have requestOutcome (l : Link) (k : Kind) (q : Request) (named : f = requestFrame k q) :
      exec (requestCommand l k q) s =
        .next (s.arrive l (takeRequest k (handlerOf k) l f) f).commit := by
    rw [exec_requestCommand, named]
    rfl
  refine ⟨fun busy => ?_, fun running unread kept => ?_, fun running read kept => ?_⟩
  · have held := State.arriveE_busy awake fits busy
    refine ⟨rfl, fun k q named => ?_, fun room => ?_, fun full => ?_⟩
    · rw [requestOutcome .e k q named, heldOutcome, held]
      exact congrArg (fun t => Host.Outcome.next (State.commit t)) (held _)
    · have queued : (s.hunt .e).holdFrame f =
          { s with linkE := { s.linkE with rx := .hunting, held := s.linkE.held ++ [f] } } := if_pos room
      rw [heldOutcome, held, queued]
      exact congrArg Host.Outcome.next (State.commit_of_atRest
        ⟨rest.linkM, rest.linkE.received .hunting _, rest.pins⟩)
    · have discarded : (s.hunt .e).holdFrame f = (s.hunt .e).linkError .e := if_neg full.not_gt
      rw [heldOutcome, held, discarded, State.commit_closesE (s := (s.hunt .e).linkError .e) rest.linkM]
      rfl
  · obtain ⟨fuses, count, stops, resets⟩ := State.inWindow_restart awake kept unread running
    have lost (take : State → State) : (s.arriveM take f).commit = s.restarted .spent fuses count := by
      rw [State.arriveM, resets, State.restarted_commit]
    exact ⟨fuses, count, stops, congrArg Host.Outcome.next (lost _), fun k q named =>
      (requestOutcome .m k q named).trans (congrArg Host.Outcome.next (lost _))⟩
  · have lost (take : State → State) : (s.arriveM take f).commit = State.drive { s with
        spi := .spent, windowIgnored := false, linkM := { s.linkM with rx := .hunting } } := by
      rw [State.arriveM, (State.inWindow_read awake kept read _).trans (if_pos running),
        State.commit_closesM (s := (s.hunt .m).spendWindow .m) rest.linkE]
      have closed : ((s.hunt .m).spendWindow .m).linkM.close = { s.linkM with rx := .hunting } :=
        LinkState.close_of_atRest (rest.linkM.received .hunting s.linkM.held)
      rw [closed]
      rfl
    exact ⟨congrArg Host.Outcome.next (lost _), fun k q named =>
      (requestOutcome .m k q named).trans (congrArg Host.Outcome.next (lost _))⟩

end Sys2Proof
end

section
/-! SUPPORT. Broken frames, replies that leave and the windows of Link M (R166, R171, R173 to R179). -/

namespace Sys2Proof.Machine

/-! ### Broken frames -/

/-- A link whose frame is broken, before its event closes (R174, R177). -/
def LinkState.brokenOff (x : LinkState) : LinkState :=
  { x with rx := .hunting, flags := x.flags ||| 0x100 }

theorem State.abandon_eq (s : State) (l : Link) : s.abandon l = s.onLink l LinkState.brokenOff := by
  cases l <;> rfl

theorem LinkState.inFrame_iff (x : LinkState) : x.inFrame = true ↔ x.rx ≠ .hunting := by
  cases rx : x.rx <;> simp [LinkState.inFrame, rx]

theorem abandons_lenOutOfRange (l : Link) {len : Half} (out : len.toNat < 2 ∨ 1040 < len.toNat) :
    abandons l (.lenOutOfRange len) = true := by
  have bad : lenOk len.toNat = false := by
    rw [← Bool.not_eq_true, lenOk_iff]
    omega
  rw [abandons, bad]
  rfl

/-- What RXD brings on an empty queue (R177). -/
theorem State.receive_linkE {s : State} (awake : s.deaf = false) : s.receive.linkE =
    if s.linkE.rx = .hunting ∧ Config.linkEByte s.freeCount = some 0xA5 then
      { s.linkE with rx := .assembling [0xA5] }
    else s.linkE := by
  rw [State.receive]
  cases byte : Config.linkEByte s.freeCount with
  | none =>
    rw [if_neg fun h => by cases h.2]
  | some b =>
    have heard : (s.hearE b).linkE = s.linkE.hear b := by
      rw [State.hearE, if_neg (by rw [awake]; exact nofun)]
      rfl
    refine heard.trans ?_
    by_cases begins : s.linkE.rx = .hunting ∧ b = 0xA5
    · obtain ⟨hunting, rfl⟩ := begins
      refine Eq.trans ?_ (if_pos ⟨hunting, rfl⟩).symm
      rw [LinkState.hear, (LinkState.inFrame_eq_false _).2 hunting]
      rfl
    · have other : ¬(s.linkE.rx = .hunting ∧ some b = some 0xA5) := fun h =>
        begins ⟨h.1, Option.some.inj h.2⟩
      rw [if_neg other, LinkState.hear, if_neg]
      rw [Bool.and_eq_true, Bool.not_eq_true', LinkState.inFrame_eq_false, beq_iff_eq]
      exact begins

theorem State.idle_linkE (s : State) : s.idle.linkE = s.receive.linkE := by
  rcases s.idle_cases with e | ⟨-, e⟩ | ⟨-, -, e⟩ <;> rw [e] <;> rfl

end Sys2Proof.Machine

namespace Sys2Proof
open Machine

/-- Settles O49: each row abandons the frame where one is assembled, and on Link M its window ends with it. -/
theorem brokenFramesSetLinkError : Obligations.BrokenFramesSetLinkError := by
  intro s rest awake broken
  have breaks : (s.abandon .e).commit = State.drive { s with linkE := broken s.linkE } := by
    rw [s.abandon_eq, State.commit_closesE (s := s.onLink .e LinkState.brokenOff) rest.linkM]
    rfl
  have assembling : s.assemblingE = true ↔ s.linkE.rx ≠ .hunting := by
    rw [State.assemblingE, awake, Bool.not_false, Bool.and_true, LinkState.inFrame_iff]
  have whileAssembling : (if s.assemblingE then s.abandon .e else s).commit =
      if s.linkE.rx = .hunting then s else State.drive { s with linkE := broken s.linkE } := by
    by_cases hunting : s.linkE.rx = .hunting
    · rw [if_neg fun h => assembling.1 h hunting, if_pos hunting, State.commit_of_atRest rest]
    · rw [if_pos (assembling.2 hunting), if_neg hunting, breaks]
  refine ⟨fun cause can => ?_, congrArg Host.Outcome.next whileAssembling, ?_, fun empty => ?_,
    fun cause read running kept can => ?_⟩
  · have able : abandons .e cause = true := by
      rcases can with rfl | ⟨len, out, rfl⟩
      · rfl
      · exact abandons_lenOutOfRange .e out
    have outcome : exec (.frameAbandoned .e cause) s = .next (s.frameAbandoned .e cause).commit := rfl
    rw [outcome, State.frameAbandoned, able]
    exact congrArg Host.Outcome.next whileAssembling
  · have outcome : exec .stopBitLowWhileHunting s = .next s.stopBitLow.commit := rfl
    have low : s.stopBitLow = if s.linkE.rx = .hunting then s.linkError .e else s := by
      rw [State.stopBitLow, awake, Bool.false_or]
      by_cases hunting : s.linkE.rx = .hunting
      · rw [(LinkState.inFrame_eq_false _).2 hunting, if_pos hunting, if_neg nofun]
      · rw [(LinkState.inFrame_iff _).2 hunting, if_neg hunting, if_pos rfl]
    rw [outcome, low]
    by_cases hunting : s.linkE.rx = .hunting
    · have same : ({ s.linkE with rx := .hunting } : LinkState) = s.linkE := by rw [← hunting]
      have flagged : (s.linkError .e).linkE.close = broken s.linkE :=
        (congrArg (fun x => LinkState.flagged x 0x100) same).symm
      rw [if_pos hunting, if_pos hunting, State.commit_closesE (s := s.linkError .e) rest.linkM, flagged]
      rfl
    · rw [if_neg hunting, if_neg hunting, State.commit_of_atRest rest]
  · refine ⟨s.idle, by rw [step, empty], ?_⟩
    rw [State.idle_linkE, State.receive_linkE awake]
  · have able : abandons .m cause = true := by
      rcases can with rfl | ⟨len, out, rfl⟩
      · rfl
      · exact abandons_lenOutOfRange .m out
    have outcome : exec (.frameAbandoned .m cause) s = .next (s.frameAbandoned .m cause).commit := rfl
    have window : s.inWindow (fun t => t.abandon .m) =
        { s with spi := .spent, windowIgnored := false, linkM := s.linkM.brokenOff } :=
      ((State.inWindow_read awake kept read _).trans
        (if_neg (by rw [running]; exact nofun))).trans rfl
    have shape : s.frameAbandoned .m cause = { s with
        spi := if cause = .windowEnded then .shut else .spent
        windowIgnored := false
        linkM := s.linkM.brokenOff } := by
      rw [State.frameAbandoned, able, Bool.not_true, if_neg nofun]
      dsimp only
      rw [window]
      split <;> rfl
    rw [outcome, shape, State.commit_closesM (s := { s with
      spi := if cause = .windowEnded then .shut else .spent
      windowIgnored := false
      linkM := s.linkM.brokenOff }) rest.linkE]
    rfl

end Sys2Proof
end

section
/-! SUPPORT. Replies that leave (R152, R171, R175, R179). -/

namespace Sys2Proof.Machine

theorem State.assembling_iff (s : State) :
    s.assembling = true ↔ s.spi = .request ∧ s.windowIgnored = false := by
  rw [State.assembling, Bool.and_eq_true, beq_iff_eq, Bool.not_eq_true']

/-! ### Entries that empty -/

theorem LinkState.emptyOrdinary_eq (x : LinkState) : x.emptyOrdinary =
    { x with ordinary := none, sending := if x.waitReply = none then none else some .wait } := by
  rcases reply : x.waitReply with _ | r <;> simp [LinkState.emptyOrdinary, reply]

theorem LinkState.emptyWait_eq (x : LinkState) : x.emptyWait =
    { x with waitReply := none, sending := if x.ordinary = none then none else some .ordinary } := by
  rcases reply : x.ordinary with _ | r <;> simp [LinkState.emptyWait, reply]

theorem LinkState.AtRest.emptyOrdinary {x : LinkState} (rest : x.AtRest) : x.emptyOrdinary.AtRest := by
  refine ⟨rest.parked, ?_⟩
  rcases reply : x.waitReply with _ | r <;> simp [LinkState.emptyOrdinary, reply]

theorem LinkState.AtRest.emptyWait {x : LinkState} (rest : x.AtRest) : x.emptyWait.AtRest := by
  refine ⟨rest.parked, ?_⟩
  rcases reply : x.ordinary with _ | r <;> simp [LinkState.emptyWait, reply]

/-- An event that leaves one link at rest as it changes it drives the pins alone. -/
theorem State.commit_onLink_atRest {s : State} (rest : s.AtRest) (l : Link) (f : LinkState → LinkState)
    (still : (f (s.link l)).AtRest) :
    ((s.spendWindow l).onLink l f).commit = ((s.spendWindow l).onLink l f).drive := by
  rw [State.commit_onLink rest]
  refine congrArg State.drive (State.onLink_congr _ l ?_)
  rw [State.spendWindow_link]
  exact LinkState.close_of_atRest still

/-! ### Replies that leave -/

section
variable {s : State} (awake : s.deaf = false)
include awake

theorem State.replyLeaves_assembling (assembling : s.assembling = true) : s.replyLeaves .m = s := by
  rw [State.replyLeaves, awake, assembling]
  rfl

variable (l : Link) (read : l = .m → s.assembling = false)
include read

theorem State.replyLeaves_read : s.replyLeaves l =
    (s.link l).sending.elim s fun e =>
      match e with
      | .ordinary => (s.spendWindow l).ordinaryLeft l
      | .wait => (s.spendWindow l).onLink l LinkState.emptyWait := by
  have heard : (s.deaf || (l == .m && s.assembling)) = false := by
    cases l with
    | m => rw [awake, read rfl]; rfl
    | e => rw [awake]; rfl
  rw [State.replyLeaves, heard, if_neg nofun]
  rcases (s.link l).sending with _ | _ | _ <;> rfl

end

/-! ### Link E takes a held frame -/

theorem takeWait_restartPending (l : Link) (f : Frame) (s : State) :
    (takeWait l f s).1.restartPending = s.restartPending := by
  simp only [takeWait]
  split
  · rfl
  · split
    · rfl
    · split <;> exact State.onLink_restartPending s l _

/-- No frame of Link E makes a RESTART pending (R152). -/
theorem handlerOf_restartPending (k : Kind) (f : Frame) (s : State) :
    (handlerOf k .e f s).1.restartPending = s.restartPending := by
  cases acts : actsOnLink k with
  | false =>
    rcases handlerOf_served acts .e f s with e | served
    · rw [e]
    · exact served.quiet.restart
  | true =>
    cases k with
    | wait => exact takeWait_restartPending .e f s
    | eventMask | eventClear | restart => rfl
    | _ => cases acts

theorem State.answer_restartPending (l : Link) (f : Frame) (served : Served) :
    (State.answer l f served).restartPending = served.1.restartPending := by
  unfold State.answer
  split
  · exact State.putReply_restartPending _ l _
  · rfl

theorem takeFrame_restartPending (f : Frame) (s : State) :
    (takeFrame .e f s).restartPending = s.restartPending := by
  unfold takeFrame
  split
  next k _ =>
    unfold takeRequest
    split
    · rfl
    · split
      · rfl
      · rw [State.answer_restartPending, handlerOf_restartPending]
  · split
    · rfl
    · rfl

/-- A request that arrives on a link which can take it at once is the frame taken there. -/
theorem takeFrame_requestFrame (l : Link) (k : Kind) (q : Request) (s : State) :
    takeFrame l (requestFrame k q) s = takeRequest k (handlerOf k) l (requestFrame k q) s := by
  have known : kindOf (requestFrame k q).kind = some k := kindOf_kindCode k
  rw [takeFrame, known]

/-- Link E as its ordinary reply leaves it, with the frames that are then held. -/
def State.emptiedE (s : State) (held : List Frame) : State :=
  { s with linkE := { s.linkE with
      ordinary := none, held := held
      sending := if s.linkE.waitReply = none then none else some .wait } }

theorem State.ordinaryLeft_e (s : State) :
    s.ordinaryLeft .e = drainHeld s.linkE.held.length (s.emptiedE s.linkE.held) := by
  have emptied : s.onLink .e LinkState.emptyOrdinary = s.emptiedE s.linkE.held :=
    congrArg (fun x => { s with linkE := x }) s.linkE.emptyOrdinary_eq
  rw [State.ordinaryLeft, emptied]
  rfl

end Sys2Proof.Machine

namespace Sys2Proof
open Machine

/-- Settles O50: the entry that empties, and on Link E the held frames taken behind it one by one. -/
theorem repliesLeave : Obligations.RepliesLeave := by
  intro s rest awake assembling
  have outcome (l : Link) : exec (.replyLeft l) s = .next (s.replyLeaves l).commit := rfl
  have notAssembling (h : ¬assembling) : s.assembling = false :=
    Bool.eq_false_iff.2 fun a => h (s.assembling_iff.1 a)
  refine ⟨fun h => ?_, fun l sending read => ?_, fun h sending running => ?_, fun h sending running => ?_, ?_⟩
  · rw [outcome, State.replyLeaves_assembling awake (s.assembling_iff.2 h), State.commit_of_atRest rest]
  · have leaves : s.replyLeaves l = (s.spendWindow l).onLink l LinkState.emptyWait := by
      rw [State.replyLeaves_read awake l fun m => notAssembling (read m), sending]
      rfl
    rw [outcome, leaves, State.commit_onLink_atRest rest l _ (rest.link l).emptyWait]
    exact congrArg (fun f => Host.Outcome.next (State.drive ((s.spendWindow l).onLink l f)))
      (funext LinkState.emptyWait_eq)
  · have leaves : s.replyLeaves .m = (s.spendWindow .m).onLink .m LinkState.emptyOrdinary := by
      rw [State.replyLeaves_read awake .m fun _ => notAssembling h, State.link, sending]
      exact if_neg (by rw [State.spendWindow_restartPending, running]; exact nofun)
    rw [outcome, leaves, State.commit_onLink_atRest rest .m _ rest.linkM.emptyOrdinary]
    exact congrArg (fun x => Host.Outcome.next (State.drive
      { s with spi := .spent, windowIgnored := false, linkM := x })) s.linkM.emptyOrdinary_eq
  · have leaves : s.replyLeaves .m = State.warmReset { s with
        linkM := s.linkM.emptyOrdinary, spi := .spent, windowIgnored := false } .restart := by
      rw [State.replyLeaves_read awake .m fun _ => notAssembling h, State.link, sending]
      exact if_pos (by rw [State.spendWindow_restartPending, running])
    obtain ⟨fuses, count, stops, reset⟩ :=
      State.warmReset_restarted awake s.linkM.emptyOrdinary (spi := .spent) nofun false
    refine ⟨fuses, count, stops, ?_⟩
    rw [outcome, leaves, reset, State.restarted_commit]
  · intro emptied sending
    have leaves : s.replyLeaves .e = drainHeld s.linkE.held.length (s.emptiedE s.linkE.held) := by
      rw [State.replyLeaves_read awake .e nofun, State.link, sending]
      exact s.ordinaryLeft_e
    have still : (emptied s.linkE.held).linkE.AtRest :=
      (s.linkE.emptyOrdinary_eq ▸ rest.linkE.emptyOrdinary :)
    have drains (f : Frame) (held : List Frame) (running : s.restartPending = false) :
        drainHeld (held.length + 1) (s.emptiedE (f :: held)) =
          drainHeld held.length (takeFrame .e f (emptied held)).commit :=
      drainHeld_takes (s := s.emptiedE (f :: held)) rfl running rfl held.length
    refine ⟨fun stays => ?_, fun f fits running held => ?_, fun f g running held => ?_⟩
    · have none : drainHeld s.linkE.held.length (s.emptiedE s.linkE.held) = emptied s.linkE.held :=
        drainHeld_stays (s := s.emptiedE s.linkE.held) (.inr (stays.elim .inr .inl)) _
      rw [outcome, leaves, none, State.commit_closesE (s := emptied s.linkE.held) rest.linkM,
        LinkState.close_of_atRest still]
    · have takes : exec (.replyLeft .e) s = .next (takeFrame .e f (emptied [])).commit := by
        rw [outcome, leaves, held]
        exact congrArg (fun t => Host.Outcome.next (State.commit t)) (drains f [] running) |>.trans
          (congrArg Host.Outcome.next (State.commit_commit _))
      refine ⟨takes, fun hunting => ?_⟩
      have arrives (take : State → State) : (emptied []).arriveE take f = take (emptied []) := by
        have free : (emptied []).freeE = true := by
          have idle : (!s.restartPending) = true := by rw [running]; rfl
          exact idle
        have hunts : (emptied []).hunt .e = emptied [] :=
          congrArg (fun r => { emptied [] with linkE := { (emptied []).linkE with rx := r } }) hunting.symm
        have heard : (emptied []).deaf = false := awake
        simp only [State.arriveE, heard, lenOk_frameLen fits, free, hunts, Bool.false_eq_true, if_false,
          if_true]
      rw [takes]
      refine ⟨congrArg (fun t => Host.Outcome.next (State.commit t)) (arrives _).symm, fun k q named => ?_⟩
      rw [exec_requestCommand]
      change _ = Host.Outcome.next ((emptied []).arriveE (takeRequest k (handlerOf k) .e (requestFrame k q))
        (requestFrame k q)).commit
      rw [← named, arrives, named, takeFrame_requestFrame]
    · intro first
      have drained : s.replyLeaves .e = drainHeld 1 first := by
        rw [leaves, held]
        exact drains f [g] running
      refine ⟨fun answered => ?_, fun unanswered => ?_⟩
      · have stays : drainHeld 1 first = first := drainHeld_stays (.inl answered) 1
        rw [outcome, drained, stays]
        exact congrArg Host.Outcome.next (State.commit_commit _)
      · have idle : first.restartPending = false :=
          (takeFrame_restartPending f (emptied [g])).trans running
        have waiting : first.linkE.held = [g] :=
          ((takeFrame_feeds (s := emptied [g]) (l := .e) nofun f).trans
            (State.commit_feeds _)).linkE.held
        have takes : drainHeld 1 first =
            (takeFrame .e g { first with linkE := { first.linkE with held := [] } }).commit :=
          drainHeld_takes unanswered idle waiting 0
        rw [outcome, drained, takes]
        exact congrArg Host.Outcome.next (State.commit_commit _)

end Sys2Proof
end

section
/-! SUPPORT. The windows of Link M, and what an empty queue brings (R149, R151, R152, R173, R174, R176). -/

namespace Sys2Proof.Machine

/-- Pins of a part whose SDO is not driven, before and after a change of its window alone. -/
theorem State.AtRest.windowed {s : State} (rest : s.AtRest) {spi : SpiWindow} {ignored : Bool}
    (before : s.drivesSdo = false)
    (after : State.drivesSdo { s with spi := spi, windowIgnored := ignored } = false) :
    ({ s with spi := spi, windowIgnored := ignored } : State).AtRest := by
  refine rest.same rfl rfl rfl ?_
  rw [State.drivenPins, State.drivenPins, before, after]
  rfl

theorem State.drivesSdo_ignored {s : State} (ignored : s.windowIgnored = true) : s.drivesSdo = false := by
  rw [State.drivesSdo, ignored, Bool.not_true, Bool.and_false, Bool.false_and]

theorem State.drivesSdo_deaf {s : State} (held : s.deaf = true) : s.drivesSdo = false := by
  rw [State.drivesSdo, held, Bool.not_true, Bool.and_false]

theorem State.drivesSdo_shut {s : State} (shut : s.spi = .shut) : s.drivesSdo = false := by
  rw [State.drivesSdo, shut]
  rfl

/-- An event that moves Link M and its window alone closes on that link. -/
theorem State.commit_windowed {s : State} (rest : s.AtRest) (m : LinkState) (spi : SpiWindow)
    (ignored : Bool) :
    State.commit { s with linkM := m, spi := spi, windowIgnored := ignored } =
      State.drive { s with linkM := m.close, spi := spi, windowIgnored := ignored } :=
  State.commit_closesM (s := { s with linkM := m, spi := spi, windowIgnored := ignored }) rest.linkE

theorem State.windowLost_iff (s : State) :
    s.windowLost = true ↔ s.windowIgnored = true ∧ s.spi.past = false := by
  rw [State.windowLost, Bool.and_eq_true, Bool.not_eq_true']

/-- The window in which a SYNC comes is heard by a part that is not held, unless it began ignored (R173). -/
theorem State.syncWindow_heard {s : State} (awake : s.deaf = false)
    (heard : s.windowIgnored = false ∨ ∀ offered, s.spi ≠ .begun offered) :
    ∃ spi, s.syncWindow = { s with spi := spi, windowIgnored := false } := by
  unfold State.syncWindow
  split
  next offered begun =>
    have taken : s.windowIgnored = false := heard.resolve_right fun h => h offered begun
    exact ⟨s.spi, by rw [← taken]⟩
  next =>
    exact ⟨.begun s.linkM.sending, by rw [State.windowFalls, awake]⟩

/-- Of any other window no byte is taken. -/
theorem State.syncWindow_lost {s : State}
    (lost : ¬(s.deaf = false ∧ (s.windowIgnored = false ∨ ∀ offered, s.spi ≠ .begun offered))) :
    s.syncWindow.windowIgnored = true ∨ s.syncWindow.deaf = true := by
  cases held : s.deaf with
  | true =>
    refine .inr ?_
    unfold State.syncWindow
    split <;> exact held
  | false =>
    refine .inl ?_
    obtain ⟨ignored, begun⟩ := not_or.1 fun h => lost ⟨held, h⟩
    obtain ⟨offered, begun⟩ := not_forall_not.1 begun
    unfold State.syncWindow
    rw [begun]
    exact Bool.eq_true_of_not_eq_false ignored

theorem State.syncWindow_same (s : State) :
    ∃ spi ignored, s.syncWindow = { s with spi := spi, windowIgnored := ignored } := by
  unfold State.syncWindow
  split <;> exact ⟨_, _, rfl⟩

section
variable {s : State} (assembling : s.assembling = false)
include assembling

theorem State.windowBegins_heard (awake : s.deaf = false)
    (heard : s.windowIgnored = false ∨ ∀ offered, s.spi ≠ .begun offered) :
    ∃ spi, s.windowBegins = State.sync { s with spi := spi, windowIgnored := false } := by
  obtain ⟨spi, window⟩ := State.syncWindow_heard awake heard
  refine ⟨spi, ?_⟩
  rcases s.windowBegins_cases with ⟨a, -⟩ | ⟨-, lost | held, -⟩ | ⟨-, -, -, e⟩
  · cases assembling.symm.trans a
  · rw [window] at lost
    cases lost
  · rw [window] at held
    cases awake.symm.trans held
  · rw [e, window]

theorem State.windowBegins_lost
    (lost : ¬(s.deaf = false ∧ (s.windowIgnored = false ∨ ∀ offered, s.spi ≠ .begun offered))) :
    s.windowBegins = { s with spi := .request, windowIgnored := true } := by
  rcases s.windowBegins_cases with ⟨a, -⟩ | ⟨-, -, e⟩ | ⟨-, ignored, held, -⟩
  · cases assembling.symm.trans a
  · obtain ⟨spi, ignored, window⟩ := s.syncWindow_same
    rw [e, window]
  · rcases State.syncWindow_lost lost with h | h
    · cases ignored.symm.trans h
    · cases held.symm.trans h

end

/-- The window in which a frame ends is the one in which its SYNC came, unless that is past (R173, R174). -/
theorem State.frameWindow_eq_syncWindow {s : State} (assembling : s.assembling = false)
    (kept : s.windowLost = false) : s.frameWindow = s.syncWindow := by
  have request : s.spi ≠ .request := fun request => by
    have ignored : s.windowIgnored = true := by
      rw [← Bool.not_eq_false]
      exact fun taken => Bool.eq_false_iff.1 assembling (s.assembling_iff.2 ⟨request, taken⟩)
    exact Bool.eq_false_iff.1 kept (s.windowLost_iff.2 ⟨ignored, by rw [request]; rfl⟩)
  unfold State.frameWindow State.syncWindow
  cases spi : s.spi with
  | request => exact absurd spi request
  | shut | begun | spent => rfl

/-- A frame whose SYNC comes over an unread reply goes on from the part that the SYNC alone leaves (R176). -/
theorem State.inWindow_afterSync {s : State} (atRest : s.AtRest) (awake : s.deaf = false)
    (kept : s.windowLost = false) (unread : s.linkM.ordinary ≠ none) (rest : State → State) :
    s.inWindow rest = s.windowBegins.commit.inWindow rest := by
  cases assembling : s.assembling with
  | true =>
    rcases s.windowBegins_cases with ⟨-, e⟩ | ⟨a, -⟩ | ⟨a, -⟩
    · rw [e, State.commit_of_atRest atRest]
    all_goals cases a.symm.trans assembling
  | false =>
    have heard : s.windowIgnored = false ∨ ∀ offered, s.spi ≠ .begun offered := by
      by_contra lost
      obtain ⟨ignored, begun⟩ := not_or.1 lost
      obtain ⟨offered, begun⟩ := not_forall_not.1 begun
      exact Bool.eq_false_iff.1 kept
        (s.windowLost_iff.2 ⟨Bool.eq_true_of_not_eq_false ignored, by rw [begun]; rfl⟩)
    obtain ⟨spi, window⟩ := State.syncWindow_heard awake heard
    obtain ⟨w, hw⟩ : ∃ w : State, w = { s with spi := spi, windowIgnored := false } := ⟨_, rfl⟩
    have frame : s.frameWindow = w := by
      rw [State.frameWindow_eq_syncWindow assembling kept, window, hw]
    have begins : s.windowBegins = w.sync := by
      rcases s.windowBegins_cases with ⟨a, -⟩ | ⟨-, lost | held, -⟩ | ⟨-, -, -, e⟩
      · cases assembling.symm.trans a
      · rw [window] at lost
        cases lost
      · rw [window] at held
        cases awake.symm.trans held
      · rw [e, window, hw]
    have unread : w.linkM.ordinary ≠ none := by rw [hw]; exact unread
    have heard : w.deaf = false := by rw [hw]; exact awake
    have taken : w.windowIgnored = false := by rw [hw]
    have here : s.inWindow rest =
        if w.sync.commit.windowIgnored then { w.sync.commit with spi := .spent }
        else if w.sync.commit.restartPending then (w.sync.commit.hunt .m).spendWindow .m
        else rest ((w.sync.commit.hunt .m).spendWindow .m) := by
      rcases s.inWindow_cases rest with ⟨lost | held, -⟩ | ⟨-, -, e⟩
      · rw [frame, taken] at lost
        cases lost
      · rw [frame, heard] at held
        cases held
      · rw [e, frame, State.windowSync_unread unread]
    rw [here, begins]
    cases running : w.restartPending with
    | true =>
      obtain ⟨fuses, count, -, reset⟩ := State.warmReset_restarted heard w.synced.linkM
        (spi := .request) nofun w.windowIgnored
      have ends : w.sync.commit = w.restarted .request fuses count := by
        have warm : w.synced.warmReset .restart = w.restarted .request fuses count := reset
        rw [(State.sync_unread unread).trans (if_pos running), warm, State.restarted_commit]
      rw [ends]
      rcases (w.restarted .request fuses count).inWindow_cases rest with ⟨-, e⟩ | ⟨kept, -, -⟩
      · rw [e]
        rfl
      · cases kept
    | false =>
      have ends : w.sync.commit = w.synced.commit := by
        rw [(State.sync_unread unread).trans (if_neg (by rw [running]; exact nofun))]
      rw [ends]
      have read : w.synced.commit.linkM.ordinary = none := LinkState.close_ordinary _
      have open_ : w.synced.commit.windowIgnored = false := taken
      have kept : w.synced.commit.windowLost = false := by
        rw [State.windowLost, open_]
        rfl
      rw [State.inWindow_read (s := w.synced.commit) heard kept read rest, open_, if_neg nofun]

/-- What a frame of Link M does is settled in the window in which it ends. -/
theorem exec_requestCommand_window (k : Kind) (q : Request) :
    ∃ take : State → State, ∀ s, exec (requestCommand .m k q) s = .next (s.inWindow take).commit :=
  ⟨fun t => if lenOk (frameLen (requestFrame k q))
    then takeRequest k (handlerOf k) .m (requestFrame k q) t else t.abandon .m,
    exec_requestCommand .m k q⟩

theorem exec_badKindFrame_window (f : Frame) :
    ∃ take : State → State, ∀ s, exec (.badKindFrame .m f) s = .next (s.inWindow take).commit :=
  ⟨fun t => if lenOk (frameLen f) then takeFrame .m f t else t.abandon .m, fun _ => rfl⟩

/-- Where every frame is lost, the window's state is all that is left. -/
theorem exec_frame_lost {s lost : State} (ends : ∀ take, s.inWindow take = lost)
    (still : lost.commit = lost) :
    (∀ k q, exec (requestCommand .m k q) s = .next lost) ∧
      ∀ f, exec (.badKindFrame .m f) s = .next lost := by
  refine ⟨fun k q => ?_, fun f => ?_⟩
  · obtain ⟨take, outcome⟩ := exec_requestCommand_window k q
    rw [outcome, ends, still]
  · obtain ⟨take, outcome⟩ := exec_badKindFrame_window f
    rw [outcome, ends, still]

end Sys2Proof.Machine

namespace Sys2Proof
open Machine

/-- Settles O51: a window's SYNC by what it finds, and what ends in each kind of window. -/
theorem unreadReplyIsRemoved : Obligations.UnreadReplyIsRemoved := by
  intro s rest begun assembling heard
  have outcome : exec .replyRemovedUnread s = .next s.windowBegins.commit := rfl
  have notAssembling (h : ¬assembling) : s.assembling = false :=
    Bool.eq_false_iff.2 fun a => h (s.assembling_iff.1 a)
  refine ⟨fun h => ?_, fun h ⟨awake, taken⟩ read => ?_, fun h ⟨awake, taken⟩ unread running => ?_,
    fun h ⟨awake, taken⟩ unread running => ?_, fun h lost => ?_, ?_, ?_, ?_, ?_⟩
  · rcases s.windowBegins_cases with ⟨-, e⟩ | ⟨a, -⟩ | ⟨a, -⟩
    · rw [outcome, e, State.commit_of_atRest rest]
    all_goals cases a.symm.trans (s.assembling_iff.2 h)
  · obtain ⟨spi, begins⟩ := State.windowBegins_heard (notAssembling h) awake taken
    have still : begun.close = begun :=
      LinkState.close_of_atRest (rest.linkM.received (.assembling [0xA5]) s.linkM.held)
    have closes := State.commit_windowed rest begun .request false
    rw [still] at closes
    rw [outcome, begins, State.sync_read (s := { s with spi := spi, windowIgnored := false }) read]
    exact congrArg Host.Outcome.next closes
  · obtain ⟨spi, begins⟩ := State.windowBegins_heard (notAssembling h) awake taken
    have sync := (State.sync_unread (s := { s with spi := spi, windowIgnored := false }) unread).trans
      (if_neg (by rw [running]; exact nofun))
    have sending : (if s.linkM.waitReply.isSome then some ReplyEntry.wait else none) =
        if s.linkM.waitReply = none then none else some .wait := by
      cases s.linkM.waitReply <;> rfl
    rw [outcome, begins, sync, ← sending]
    exact congrArg Host.Outcome.next (State.commit_windowed rest
      (State.synced { s with spi := spi, windowIgnored := false }).linkM .request false)
  · obtain ⟨spi, begins⟩ := State.windowBegins_heard (notAssembling h) awake taken
    have sync := (State.sync_unread (s := { s with spi := spi, windowIgnored := false }) unread).trans
      (if_pos running)
    obtain ⟨fuses, count, stops, reset⟩ := State.warmReset_restarted awake
      (State.synced { s with spi := spi, windowIgnored := false }).linkM (spi := .request) nofun false
    refine ⟨fuses, count, stops, ?_⟩
    rw [outcome, begins, sync]
    exact (congrArg (fun t => Host.Outcome.next (State.commit t)) reset).trans
      (congrArg Host.Outcome.next (State.restarted_commit _ _ _ _))
  · have undriven : s.drivesSdo = false := by
      cases held : s.deaf with
      | true => exact State.drivesSdo_deaf held
      | false =>
        obtain ⟨ignored, -⟩ := not_or.1 fun t => lost ⟨held, t⟩
        exact State.drivesSdo_ignored (Bool.eq_true_of_not_eq_false ignored)
    rw [outcome, State.windowBegins_lost (notAssembling h) lost]
    exact congrArg Host.Outcome.next (State.commit_of_atRest
      (rest.windowed undriven (State.drivesSdo_ignored rfl)))
  · intro u awake kept unread next
    obtain rfl : s.windowBegins.commit = u := Host.Outcome.next.inj (outcome.symm.trans next)
    have afterSync := State.inWindow_afterSync rest awake kept unread
    refine ⟨fun k q => ?_, fun f => ?_, fun cause can => ?_⟩
    · obtain ⟨take, frame⟩ := exec_requestCommand_window k q
      rw [frame, frame, afterSync]
    · obtain ⟨take, frame⟩ := exec_badKindFrame_window f
      rw [frame, frame, afterSync]
    · have abandons_ (v : State) : exec (.frameAbandoned .m cause) v =
          .next (if cause = .windowEnded then (v.inWindow fun t => t.abandon .m).windowRises
            else v.inWindow fun t => t.abandon .m).commit := by
        have able : exec (.frameAbandoned .m cause) v = .next (v.frameAbandoned .m cause).commit := rfl
        rw [able, State.frameAbandoned, can]
        rfl
      rw [abandons_, abandons_, afterSync]
  · intro lost
    obtain ⟨ignored, open_⟩ := s.windowLost_iff.1 lost
    have undriven := State.drivesSdo_ignored ignored
    have frame : s.frameWindow = s := if_neg (by rw [open_]; exact nofun)
    have ends (take : State → State) : s.inWindow take = { s with spi := .spent } := by
      rcases s.inWindow_cases take with ⟨-, e⟩ | ⟨kept, -, -⟩
      · rw [e, frame]
      · rw [frame, ignored] at kept
        cases kept
    have spent : ({ s with spi := .spent } : State).commit = { s with spi := .spent } :=
      State.commit_of_atRest (rest.windowed (ignored := s.windowIgnored) undriven
        (State.drivesSdo_ignored ignored))
    obtain ⟨requests, frames⟩ := exec_frame_lost ends spent
    refine ⟨requests, frames, fun len out => ?_, ?_⟩
    · have shape : s.frameAbandoned .m (.lenOutOfRange len) = s.inWindow fun t => t.abandon .m := by
        rw [State.frameAbandoned, abandons_lenOutOfRange .m out]
        rfl
      exact congrArg Host.Outcome.next ((congrArg State.commit (shape.trans (ends _))).trans spent)
    · have shape : s.frameAbandoned .m .windowEnded = { s with spi := .shut, windowIgnored := false } :=
        (congrArg State.windowRises (ends fun t => t.abandon .m)).trans rfl
      exact congrArg Host.Outcome.next ((congrArg State.commit shape).trans
        (State.commit_of_atRest (rest.windowed undriven (State.drivesSdo_shut rfl))))
  · intro held past
    have frame : s.frameWindow = s.windowFalls := if_pos past
    have ends (take : State → State) : s.inWindow take = { s with spi := .spent, windowIgnored := true } := by
      rcases s.inWindow_cases take with ⟨-, e⟩ | ⟨-, heard, -⟩
      · rw [e, frame, State.windowFalls, held]
      · rw [frame] at heard
        cases held.symm.trans heard
    have spent : ({ s with spi := .spent, windowIgnored := true } : State).commit =
        { s with spi := .spent, windowIgnored := true } :=
      State.commit_of_atRest (rest.windowed (State.drivesSdo_deaf held) (State.drivesSdo_ignored rfl))
    exact exec_frame_lost ends spent
  · intro empty
    have stepIdle : step s = .next s.idle := by rw [step, empty]
    have received : ∃ rx, s.receive = { s with linkE := { s.linkE with rx := rx } } ∧
        (rx = s.linkE.rx ∨ (s.linkE.rx = .hunting ∧ s.deaf = false ∧ rx = .assembling [0xA5])) := by
      rcases s.receive_cases with e | ⟨hunting, awake, -, e⟩
      · exact ⟨s.linkE.rx, e, .inl rfl⟩
      · exact ⟨_, e, .inr ⟨hunting, awake, rfl⟩⟩
    obtain ⟨rx, receive, heard⟩ := received
    refine ⟨rx, heard, ?_⟩
    intro u
    have hu : ({ s.receive with freeCount := s.freeCount + 1 } : State) = u := by rw [receive]
    have driven : u.drive = u := by
      have pins : u.pins = u.drivenPins := rest.pins
      rw [State.drive, ← pins]
    rw [stepIdle]
    rcases s.idle_cases with e | ⟨shut, e⟩ | ⟨open_, between, e⟩
    · exact .inl (by rw [e, hu, driven])
    · exact .inr (.inl ⟨shut, by rw [e, hu]; rfl⟩)
    · refine .inr (.inr ⟨open_, fun a => ?_, by rw [e, hu]; rfl⟩)
      cases between.symm.trans (s.assembling_iff.2 a)

end Sys2Proof
end

section
/-! SUPPORT. What the rejections of an event leave of the slots' work, of the links and of the fault records,
before the event closes (R16, R18, R53, R54, R65, R159, R161). -/

namespace Sys2Proof.Machine

theorem State.gone_iff (s u : State) (i : Fin 12) :
    s.gone u i = true ↔ s.slots[i].live = true ∧ u.slots[i].state = .rejected := by
  rw [State.gone, Bool.and_eq_true, beq_iff_eq]

/-- The work that an event leaves depends on the slots that it rejected alone. -/
theorem State.left_congr {s t u : State} (h : ∀ i, s.gone t i = s.gone u i) :
    s.ctxsLeft t = s.ctxsLeft u ∧ s.chunksLeft t = s.chunksLeft u ∧ s.jobsLeft t = s.jobsLeft u := by
  simp only [State.ctxsLeft, State.chunksLeft, State.jobsLeft, h, and_self]

/-- Where no slot was rejected, no work is released. -/
theorem State.left_of_none {s u : State} (h : ∀ i, s.gone u i = false) :
    s.ctxsLeft u = s.ctxs ∧ s.chunksLeft u = s.chunkQueue ∧ s.jobsLeft u = s.jobs := by
  refine ⟨?_, ?_, ?_⟩
  · refine Vector.ext fun x hx => ?_
    refine (tabulate_getElem _ x hx).trans ?_
    simp only [h]
    change (match s.ctxs[x] with | some claim => _ | none => _) = _
    cases s.ctxs[x] <;> rfl
  · simp only [State.chunksLeft, h, Bool.false_and, Bool.not_false, List.filter_true]
  · refine List.filter_eq_self.2 fun j _ => ?_
    cases j with
    | manifest i g => simp only [h, Bool.false_and, Bool.not_false]
    | revoke l t r g => rfl

/-- A part inside an event that found it as `s`: the slots still live are as they were, the work of those
rejected is released, both links have the flags that the event posts, and the units are untouched. -/
structure State.Amid (s u : State) (own : Half) : Prop where
  units  : s.SameUnits u
  live   : ∀ j : Fin 12, u.slots[j].live = true → u.slots[j] = s.slots[j]
  ctxs   : u.ctxs = s.ctxsLeft u
  chunks : u.chunkQueue = s.chunksLeft u
  jobs   : u.jobs = s.jobsLeft u
  links  : u.linkM = (s.raised (s.posted u own)).linkM ∧ u.linkE = (s.raised (s.posted u own)).linkE

/-- A part in which the event has rejected no slot yet. -/
theorem State.Amid.start {s u : State} {own : Half} (units : s.SameUnits u)
    (live : ∀ j : Fin 12, u.slots[j].live = true → u.slots[j] = s.slots[j])
    (none : ∀ i, s.gone u i = false)
    (work : u.ctxs = s.ctxs ∧ u.chunkQueue = s.chunkQueue ∧ u.jobs = s.jobs)
    (links : u.linkM = (s.raised (s.posted u own)).linkM ∧
      u.linkE = (s.raised (s.posted u own)).linkE) : s.Amid u own := by
  obtain ⟨ctxs, chunks, jobs⟩ := State.left_of_none none
  obtain ⟨c, q, j⟩ := work
  exact ⟨units, live, c.trans ctxs.symm, q.trans chunks.symm, j.trans jobs.symm, links⟩

theorem State.gone_self (s : State) (i : Fin 12) : s.gone s i = false := by
  rw [← Bool.not_eq_true, State.gone_iff, Slot.live_iff]
  rintro ⟨live, rejected⟩
  rw [rejected] at live
  rcases live with h | h | h <;> cases h

theorem State.posted_self (s : State) (own : Half) : s.posted s own = own := by
  simp only [State.posted, s.gone_self]
  simp

theorem State.Amid.refl (s : State) : s.Amid s 0 :=
  .start (.refl s) (fun _ _ => rfl) s.gone_self ⟨rfl, rfl, rfl⟩ (by
    rw [State.posted_self, State.raised]
    exact ⟨congrArg (fun f => { s.linkM with flags := f }) BitVec.or_zero.symm,
      congrArg (fun f => { s.linkE with flags := f }) BitVec.or_zero.symm⟩)

/-- A change of what no slot's work depends on, posting what it brings. -/
theorem State.Amid.posts {s u t : State} {own : Half} (h : s.Amid u own) (units : u.SameUnits t)
    (slots : t.slots = u.slots)
    (work : t.ctxs = u.ctxs ∧ t.chunkQueue = u.chunkQueue ∧ t.jobs = u.jobs) {bits own' : Half}
    (links : t.linkM = (u.raised bits).linkM ∧ t.linkE = (u.raised bits).linkE)
    (posted : s.posted t own' = s.posted u own ||| bits) : s.Amid t own' := by
  have gone (i : Fin 12) : s.gone t i = s.gone u i := by rw [State.gone, State.gone, slots]
  obtain ⟨ctxs, chunks, jobs⟩ := State.left_congr gone
  obtain ⟨c, q, j⟩ := work
  obtain ⟨m, e⟩ := links
  obtain ⟨um, ue⟩ := h.links
  refine ⟨h.units.trans units, by rw [slots]; exact h.live, c.trans (h.ctxs.trans ctxs.symm),
    q.trans (h.chunks.trans chunks.symm), j.trans (h.jobs.trans jobs.symm), ?_, ?_⟩
  · rw [m, posted, ← State.raised_raised]
    simp only [State.raised, um]
  · rw [e, posted, ← State.raised_raised]
    simp only [State.raised, ue]

/-! ### One rejection -/

section
variable {s u : State} {own : Half} (h : s.Amid u own) {i : Fin 12} (live : u.slots[i].live = true)
  (r : FaultCode) (g : Option Byte) (k : Option (Fin 10)) (d : List Byte)
include h live

theorem State.Amid.gone_reject (j : Fin 12) :
    s.gone (u.reject i r g k d) j = (s.gone u j || j == i) := by
  have slot : (u.reject i r g k d).slots[j] =
      if j = i then u.slots[i].rejectedFor r else u.slots[j] := by
    rw [State.reject_slots live, put_fin]
  rw [Bool.eq_iff_iff, Bool.or_eq_true, State.gone_iff, State.gone_iff, slot, beq_iff_eq]
  by_cases same : j = i
  · subst same
    exact iff_of_true ⟨h.live j live ▸ live, by rw [if_pos rfl]; rfl⟩ (.inr rfl)
  · simp [same]

/-- What is kept of a slot's chunks and jobs then: none of the slot rejected (R54, R65). -/
theorem State.Amid.kept_reject (n : Fin 12) (q : Byte) :
    (!(s.gone (u.reject i r g k d) n && q == s.slots[n].gen)) =
      (!(n == i && q == u.slots[i].gen) && !(s.gone u n && q == s.slots[n].gen)) := by
  rw [h.gone_reject live, h.live i live]
  by_cases ni : n = i
  · subst ni
    cases s.gone u n <;> simp
  · rw [beq_false_of_ne ni, Bool.or_false, Bool.false_and, Bool.not_false, Bool.true_and]

theorem State.Amid.posted_reject :
    s.posted (u.reject i r g k d) own = s.posted u own ||| 0x081 := by
  have some : ∃ j, s.gone (u.reject i r g k d) j = true :=
    ⟨i, by rw [h.gone_reject live]; simp⟩
  simp only [State.posted, State.reject_classes, State.reject_lines, State.reject_mode]
  rw [if_pos some]
  by_cases before : ∃ j, s.gone u j = true
  · rw [if_pos before]
    ext n
    simp only [BitVec.getElem_or]
    grind
  · rw [if_neg before]
    ext n
    simp only [BitVec.getElem_or]
    grind

/-- The slot's work is released and SLOT_DONE and FAULT are set (R16, R18). -/
theorem State.Amid.reject : s.Amid (u.reject i r g k d) own := by
  have gone := h.gone_reject live r g k d
  have posted := h.posted_reject live r g k d
  obtain ⟨m, e⟩ := h.links
  refine ⟨h.units.trans (u.reject_sameUnits ..), fun j l => ?_, ?_, ?_, ?_, ?_, ?_⟩
  case refine_1 =>
    rw [State.reject_slots live, put_fin] at l ⊢
    split at l
    · cases l
    next ne => rw [if_neg ne]; exact h.live j l
  case refine_2 =>
    rw [State.reject_ctxs live, h.ctxs]
    refine congrArg tabulate (funext fun x => ?_)
    rw [State.ctxsLeft, tabulate_fin]
    cases s.ctxs[x] with
    | none => rfl
    | some c =>
      simp only [gone]
      cases s.gone u c.slot <;> by_cases ci : c.slot = i <;> simp [ci]
  case refine_3 =>
    rw [State.reject_chunkQueue live, h.chunks, State.chunksLeft, State.chunksLeft, List.filter_filter]
    refine List.filter_congr fun ch _ => ?_
    exact (h.kept_reject live r g k d ch.slot ch.gen).symm
  case refine_4 =>
    rw [State.reject_jobs live, h.jobs, State.jobsLeft, State.jobsLeft, List.filter_filter]
    refine List.filter_congr fun j _ => ?_
    cases j with
    | revoke l t n sig => rfl
    | manifest n q =>
      have names : (Job.manifest n q != .manifest i u.slots[i].gen) =
          !(n == i && q == u.slots[i].gen) := by
        rw [bne, Bool.not_inj_iff, Bool.eq_iff_iff]
        simp
      rw [names]
      exact (h.kept_reject live r g k d n q).symm
  case refine_5 =>
    rw [State.reject_linkM, posted, m]
    simp only [State.raised, BitVec.or_assoc]
    rfl
  case refine_6 =>
    rw [State.reject_linkE, posted, e]
    simp only [State.raised, BitVec.or_assoc]
    rfl

end

/-! ### Rejection orders -/

theorem State.SameUnits.bootClock {s u : State} (h : s.SameUnits u) : u.bootClock = s.bootClock := by
  obtain ⟨_, _, _, _, _, _, _, _, _, _, _, _, _, rfl⟩ := h
  rfl

theorem indicesOf_nodup {n : Nat} (p : Fin n → Bool) : (indicesOf p).Nodup := (List.nodup_finRange n).filter p

theorem State.Amid.rejectAll {s : State} {own : Half} {names : List (Fin 12)} (r : FaultCode)
    (k : Option (Fin 10)) : ∀ {u : State}, s.Amid u own → names.Nodup →
      (∀ i ∈ names, u.slots[i].live = true) → s.Amid (u.rejectAll names r k) own := by
  induction names with
  | nil => exact fun h _ _ => h
  | cons i rest ih =>
    intro u h distinct live
    obtain ⟨new, distinct⟩ := List.nodup_cons.1 distinct
    have first := live i List.mem_cons_self
    refine ih (h.reject first r none k []) distinct fun j mem => ?_
    rw [State.reject_slots first, put_fin_ne _ _ fun (ji : j = i) => new (ji ▸ mem)]
    exact live j (List.mem_cons_of_mem i mem)

/-- The faults of an order, in its slots' order (R17, R159). -/
theorem State.rejectAll_faults {names : List (Fin 12)} (r : FaultCode) (k : Option (Fin 10)) :
    ∀ {u : State}, names.Nodup → (∀ i ∈ names, u.slots[i].live = true) →
      (u.rejectAll names r k).faults =
        names.foldl (fun v i => storeFault v (u.rejection i r none k [])) u.faults := by
  induction names with
  | nil => exact fun _ _ => rfl
  | cons i rest ih =>
    intro u distinct live
    obtain ⟨new, distinct⟩ := List.nodup_cons.1 distinct
    have first := live i List.mem_cons_self
    have other (j : Fin 12) (mem : j ∈ rest) : (u.reject i r none k []).slots[j] = u.slots[j] := by
      rw [State.reject_slots first, put_fin_ne _ _ fun (ji : j = i) => new (ji ▸ mem)]
    refine (ih (u := u.reject i r none k []) distinct fun j mem => ?_).trans ?_
    · rw [other j mem]
      exact live j (List.mem_cons_of_mem i mem)
    · rw [State.reject_faults, List.foldl_cons]
      refine List.foldl_ext _ _ _ fun v j mem => ?_
      rw [State.rejection, State.rejection, other j mem, State.reject_bootClock]

/-- The records that an order has stored, its slots being told by the state that it leaves. -/
theorem State.recorded_eq {s t : State} {p : Fin 12 → Bool} {r : FaultCode} {k : Option (Fin 10)}
    (v : Vector FaultRecord 4)
    (names : ∀ i, (s.gone t i && t.slots[i].reason == some r) = p i) :
    s.recorded t v (r, k) =
      (indicesOf p).foldl (fun v i => storeFault v (s.rejection i r none k [])) v := by
  have same : ((List.finRange 12).filter fun i => s.gone t i && t.slots[i].reason == some r) =
      indicesOf p := List.filter_congr fun i _ => names i
  rw [State.recorded, same]
  rfl

theorem State.recorded_congr {s t u : State} {r : FaultCode} (v : Vector FaultRecord 4)
    (k : Option (Fin 10))
    (same : ∀ i, (s.gone t i && t.slots[i].reason == some r) =
      (s.gone u i && u.slots[i].reason == some r)) :
    s.recorded t v (r, k) = s.recorded u v (r, k) := by
  rw [State.recorded, State.recorded, List.filter_congr fun i _ => same i]

/-- An order of the event, given between two of its states: its faults are stored after those that stand, in
ascending slot index, and those of the orders before it stand as they did (R17, R159). -/
structure State.Orders (s u t : State) (own : Half) (r : FaultCode) (k : Option (Fin 10)) : Prop where
  amid   : s.Amid t own
  faults : t.faults = s.recorded t u.faults (r, k)
  others : ∀ (v : Vector FaultRecord 4) (r' : FaultCode) (k' : Option (Fin 10)), r' ≠ r →
    s.recorded t v (r', k') = s.recorded u v (r', k')

/-- An order for some live slots, for a reason that is new to the event. -/
theorem State.Amid.order {s u : State} {own : Half} (h : s.Amid u own) {p : Fin 12 → Bool}
    (live : ∀ i, p i = true → u.slots[i].live = true) {r : FaultCode} (k : Option (Fin 10))
    (fresh : ∀ i, s.gone u i = true → u.slots[i].reason ≠ some r) :
    s.Orders u (u.rejectAll (indicesOf p) r k) own r k := by
  have mem (i : Fin 12) (hi : i ∈ indicesOf p) : u.slots[i].live = true := live i ((mem_indicesOf p i).1 hi)
  have slot (j : Fin 12) : (u.rejectAll (indicesOf p) r k).slots[j] =
      if p j = true then u.slots[j].rejectedFor r else u.slots[j] := by
    rw [State.rejectAll_slots r k (indicesOf_nodup p) mem]
    simp only [mem_indicesOf]
  refine ⟨h.rejectAll r k (indicesOf_nodup p) mem, ?_, fun v r' k' other => ?_⟩
  · rw [State.rejectAll_faults r k (indicesOf_nodup p) mem, State.recorded_eq u.faults (p := p)]
    · refine List.foldl_ext _ _ _ fun v i hi => ?_
      rw [State.rejection, State.rejection, h.live i (mem i hi), h.units.bootClock]
    · intro i
      rw [State.gone, slot]
      by_cases pi : p i = true
      · rw [if_pos pi, pi, ← h.live i (live i pi), live i pi]
        simp [Slot.rejectedFor]
      · rw [if_neg pi, Bool.eq_false_iff.2 pi, ← Bool.not_eq_true, Bool.and_eq_true, beq_iff_eq]
        rintro ⟨gone, reason⟩
        exact fresh i gone reason
  · refine State.recorded_congr v k' fun i => ?_
    rw [State.gone, State.gone, slot]
    by_cases pi : p i = true
    · have loaded := live i pi
      have alive : (u.slots[i].state == .rejected) = false := by
        rw [beq_eq_false_iff_ne]
        intro rejected
        rw [Slot.live, rejected] at loaded
        cases loaded
      have reason : ((u.slots[i].rejectedFor r).reason == some r') = false :=
        beq_false_of_ne fun same => other (Option.some.inj same).symm
      rw [if_pos pi, alive, reason, Bool.and_false, Bool.and_false, Bool.false_and]
    · rw [if_neg pi]

/-- No order, where none of the slots rejected has its reason. -/
theorem State.Orders.still {s u t : State} {own : Half} (h : s.Amid t own) {r : FaultCode}
    (k : Option (Fin 10)) (fresh : ∀ i, s.gone u i = true → u.slots[i].reason ≠ some r)
    (slots : t.slots = u.slots) (faults : t.faults = u.faults) : s.Orders u t own r k := by
  have gone (i : Fin 12) : s.gone t i = s.gone u i := by rw [State.gone, State.gone, slots]
  refine ⟨h, ?_, fun v r' k' _ => State.recorded_congr v k' fun i => by rw [gone, slots]⟩
  rw [State.recorded_eq u.faults (p := fun _ => false), faults]
  · exact (congrArg (fun l => List.foldl _ u.faults l) (List.filter_false _)).symm
  · intro i
    rw [gone, slots, ← Bool.not_eq_true, Bool.and_eq_true, beq_iff_eq]
    rintro ⟨out, reason⟩
    exact fresh i out reason

/-- An order depends, of the state before it, on the slots and the fault records alone, -/
theorem State.Orders.before {s u u' t : State} {own : Half} {r : FaultCode} {k : Option (Fin 10)}
    (h : s.Orders u' t own r k) (slots : u'.slots = u.slots) (faults : u'.faults = u.faults) :
    s.Orders u t own r k :=
  ⟨h.amid, by rw [← faults]; exact h.faults, fun v r' k' other => (h.others v r' k' other).trans
    (State.recorded_congr v k' fun i => by rw [State.gone, State.gone, slots])⟩

/-- and so of the state after it. -/
theorem State.Orders.after {s u t t' : State} {own own' : Half} {r : FaultCode} {k : Option (Fin 10)}
    (h : s.Orders u t own r k) (amid : s.Amid t' own') (slots : t'.slots = t.slots)
    (faults : t'.faults = t.faults) : s.Orders u t' own' r k := by
  have same (v : Vector FaultRecord 4) (r' : FaultCode) (k' : Option (Fin 10)) :
      s.recorded t' v (r', k') = s.recorded t v (r', k') :=
    State.recorded_congr v k' fun i => by rw [State.gone, State.gone, slots]
  exact ⟨amid, by rw [faults, same]; exact h.faults,
    fun v r' k' other => (same v r' k').trans (h.others v r' k' other)⟩

end Sys2Proof.Machine
end

section
/-! SUPPORT. Classes, lines and the entry to SETTLED inside an event, with the flags that they post and the
faults of the slots that settle (R106, R118, R120, R121, R161). -/

namespace Sys2Proof.Machine

/-! ### Flags set early or late -/

/-- The flags that an event has set do not matter to a rejection. -/
theorem State.reject_raised (s : State) (bits : Half) (i : Fin 12) (r : FaultCode) (g : Option Byte)
    (k : Option (Fin 10)) (d : List Byte) :
    (s.raised bits).reject i r g k d = (s.reject i r g k d).raised bits := by
  have swap (v : Half) : v ||| bits ||| 0x080 ||| 0x001 = v ||| 0x080 ||| 0x001 ||| bits := by ac_rfl
  have live : (s.raised bits).slots[i].live = s.slots[i].live := rfl
  simp only [State.reject, live]
  split
  · simp only [State.release, State.setSlot, State.recordFault, State.post, LinkState.raise, flagBit,
      State.raised, swap]
  · simp only [State.setSlot, State.recordFault, State.post, LinkState.raise, flagBit,
      State.raised, swap]

theorem State.rejectAll_raised (bits : Half) (names : List (Fin 12)) (r : FaultCode)
    (k : Option (Fin 10)) :
    ∀ s : State, (s.raised bits).rejectAll names r k = (s.rejectAll names r k).raised bits := by
  induction names with
  | nil => exact fun _ => rfl
  | cons i rest ih =>
    intro s
    have step (u : State) : u.rejectAll (i :: rest) r k = (u.reject i r none k []).rejectAll rest r k := rfl
    rw [step, step, State.reject_raised, ih]

/-! ### What an event posts -/

/-- The flags that an event posts, taken apart. -/
theorem State.posted_eq {s u t : State} (slots : t.slots = u.slots) (own : Half) :
    s.posted t own = own ||| (if ∃ i, s.gone u i = true then 0x081 else 0) |||
      (if t.classes = s.classes then 0 else 0x002) ||| (if t.lines = s.lines then 0 else 0x004) |||
      (if t.mode = s.mode then 0 else 0x008) := by
  have gone (i : Fin 12) : s.gone t i = s.gone u i := by rw [State.gone, State.gone, slots]
  simp only [State.posted, gone]

section
variable {s u t : State} {own : Half} (slots : t.slots = u.slots)
include slots

theorem State.posted_own (own' : Half) (classes : t.classes = u.classes) (lines : t.lines = u.lines)
    (mode : t.mode = u.mode) : s.posted t (own ||| own') = s.posted u own ||| own' := by
  rw [State.posted_eq slots, State.posted, classes, lines, mode]
  ac_rfl

theorem State.posted_lines (classes : t.classes = u.classes) (mode : t.mode = u.mode)
    (before : u.lines = s.lines) (after : t.lines ≠ s.lines) :
    s.posted t own = s.posted u own ||| 0x004 := by
  rw [State.posted_eq slots, State.posted, classes, mode, if_pos before, if_neg after]
  ac_rfl

theorem State.posted_mode (classes : t.classes = u.classes) (lines : t.lines = u.lines)
    (before : u.mode = s.mode) (after : t.mode ≠ s.mode) :
    s.posted t own = s.posted u own ||| 0x008 := by
  rw [State.posted_eq slots, State.posted, classes, lines, if_pos before, if_neg after]
  have zero (v : Half) : v ||| 0 = v := BitVec.or_zero
  rw [zero]

theorem State.posted_classes (lines : t.lines = u.lines) (mode : t.mode = u.mode)
    (after : t.classes ≠ s.classes ∨ own ||| 0x002 = own) :
    s.posted t own = s.posted u own ||| 0x002 := by
  rw [State.posted_eq slots, State.posted, lines, mode]
  rcases after with after | after
  · rw [if_neg after]
    by_cases before : u.classes = s.classes
    · rw [if_pos before]
      ac_rfl
    · rw [if_neg before]
      ac_rfl
  · rw [← after]
    by_cases before : u.classes = s.classes <;> by_cases now : t.classes = s.classes <;>
      simp only [before, now, if_true, if_false] <;> ac_rfl

end

/-! ### Lines and classes that change -/

/-- A change of the records beside the slots, with the flags that it posts. -/
theorem State.Amid.raises {s u t : State} {own : Half} (h : s.Amid u own) (units : u.SameUnits t)
    (slots : t.slots = u.slots)
    (work : t.ctxs = u.ctxs ∧ t.chunkQueue = u.chunkQueue ∧ t.jobs = u.jobs)
    (links : t.linkM = u.linkM ∧ t.linkE = u.linkE) {bits own' : Half}
    (posted : s.posted t own' = s.posted u own ||| bits) : s.Amid (t.raised bits) own' := by
  obtain ⟨m, e⟩ := links
  refine h.posts (t := t.raised bits) (bits := bits) (units.trans ?_) slots work ⟨?_, ?_⟩ posted
  · exact ⟨_, _, _, _, _, _, _, _, _, _, _, _, _, rfl⟩
  · simp only [State.raised, m]
  · simp only [State.raised, e]

theorem State.Amid.moveLines {s u : State} {own : Half} (h : s.Amid u own) (lines : u.lines = s.lines)
    (v : Vector LineRec 6) : s.Amid (u.moveLines v) own := by
  by_cases same : v = u.lines
  · rw [State.moveLines, if_pos same]
    exact h
  · have moved : u.moveLines v = ({ u with lines := v } : State).raised 0x004 := if_neg same
    rw [moved]
    refine h.raises (t := { u with lines := v }) ⟨_, _, _, _, _, _, _, _, _, _, _, _, _, rfl⟩ rfl ⟨rfl, rfl, rfl⟩ ⟨rfl, rfl⟩ ?_
    exact State.posted_lines rfl rfl rfl lines (lines ▸ same)

/-- Class records that change, or are won, with CLASS_CHANGE (R106). -/
theorem State.Amid.moveClasses {s u : State} {own : Half} (h : s.Amid u own) (v : Vector ClassRec 8)
    (changed : v ≠ s.classes ∨ own ||| 0x002 = own) :
    s.Amid (({ u with classes := v } : State).raised 0x002) own := by
  refine h.raises (t := { u with classes := v }) ⟨_, _, _, _, _, _, _, _, _, _, _, _, _, rfl⟩ rfl
    ⟨rfl, rfl, rfl⟩ ⟨rfl, rfl⟩ ?_
  exact State.posted_classes rfl rfl rfl changed

/-! ### The entry to SETTLED -/

section
variable {s u : State} {own : Half} (h : s.Amid u own) (mode : u.mode = s.mode)
  (fresh : ∀ i, s.gone u i = true → u.slots[i].reason ≠ some .settledOut)
include h mode fresh

/-- The part settles: its live slots are rejected SETTLED_OUT, and SETTLED is posted (R121). -/
theorem State.Amid.settle (verify : s.mode = .verify) : s.Orders u u.settle own .settledOut none := by
  have ordered := h.order (p := fun i => u.slots[i].live) (fun _ live => live) none fresh
  have settled := u.settle_eq
  obtain ⟨v, hv⟩ : ∃ v, v = u.rejectAll u.liveSlots .settledOut none := ⟨_, rfl⟩
  have vmode : v.mode = s.mode := by rw [hv, State.rejectAll_mode, mode]
  rw [← hv] at settled
  replace ordered : s.Orders u v own .settledOut none := hv ▸ ordered
  rw [settled, State.post_eq_raised]
  refine ordered.after (ordered.amid.raises
    (t := { v with
      mode := .settled, verdict := verdictOf u.lines, window := u.window.stop,
      failedCount := u.settledCount })
    ⟨_, _, _, _, _, _, _, _, _, _, _, _, _, rfl⟩ rfl ⟨rfl, rfl, rfl⟩ ⟨rfl, rfl⟩ ?_) rfl rfl
  exact State.posted_mode rfl rfl rfl vmode (by rw [verify]; exact nofun)

theorem State.Amid.settleIfDecided : s.Orders u u.settleIfDecided own .settledOut none := by
  unfold State.settleIfDecided
  split
  next decided => exact h.settle mode fresh (mode ▸ decided.1)
  · exact .still h none fresh rfl rfl

/-- The release gate's answer (R118). -/
theorem State.Amid.gate (lines : u.lines = s.lines) : s.Orders u u.gate own .settledOut none := by
  have slots := u.moveLines_slots (evaluatedLines u.classes u.lines)
  have moved := (h.moveLines lines (evaluatedLines u.classes u.lines)).settleIfDecided
    (by rw [State.moveLines_mode, mode]) (fun i => by rw [State.gone, slots]; exact fresh i)
  exact moved.before slots (State.moveLines_faults _ _)

/-- The end of an event that moved slots (R106, R112, R118). -/
theorem State.Amid.conclude (before : State) (lines : u.lines = s.lines)
    (classes : u.classes = s.classes ∨ own ||| 0x002 = own) :
    s.Orders u (before.conclude u) own .settledOut none := by
  have closed : s.Amid (before.closeExhausted u) own ∧ (before.closeExhausted u).slots = u.slots ∧
      (before.closeExhausted u).faults = u.faults ∧ (before.closeExhausted u).mode = u.mode ∧
      (before.closeExhausted u).lines = u.lines := by
    unfold State.closeExhausted
    split
    next some =>
      refine ⟨h.moveClasses _ (classes.imp_left fun same eq => ?_), rfl, rfl, rfl, rfl⟩
      obtain ⟨c, -, closes⟩ := List.any_eq_true.1 some
      have pending := ((before.closes_iff u c).1 closes).2.1
      have now := congrArg (fun v => v[c].state) (eq.trans same.symm)
      simp only [tabulate_fin] at now
      rw [if_pos closes, pending, ClassRec.closed] at now
      split at now <;> cases now
    · exact ⟨h, rfl, rfl, rfl, rfl⟩
  obtain ⟨amid, slots, faults, m, l⟩ := closed
  have fresh' (i : Fin 12) : s.gone (before.closeExhausted u) i = true →
      (before.closeExhausted u).slots[i].reason ≠ some .settledOut := by
    rw [State.gone, slots]
    exact fresh i
  simp only [State.conclude]
  split
  · exact (amid.gate (m.trans mode) fresh' (l.trans lines)).before slots faults
  · exact .still amid none fresh slots faults

end

end Sys2Proof.Machine
end

section
/-! SUPPORT. What the end of an event leaves of the slots, the classes, the lines and the mode, as the
obligations say it (R17, R106, R110 to R112, R118, R120, R121). -/

namespace Sys2Proof.Machine

/-- Two states with the same slots, classes and lines, in the same mode. -/
structure State.SameTables (s t : State) : Prop where
  slots       : t.slots = s.slots
  classes     : t.classes = s.classes
  lines       : t.lines = s.lines
  mode        : t.mode = s.mode
  verdict     : t.verdict = s.verdict
  window      : t.window = s.window
  failedCount : t.failedCount = s.failedCount

theorem State.SameTables.refl (s : State) : s.SameTables s := ⟨rfl, rfl, rfl, rfl, rfl, rfl, rfl⟩

/-! ### Flags -/

/-- The flags that an event posts are set on both links of a state. -/
def State.Posts (s t : State) (own : Half) : Prop :=
  ∀ n, (s.posted t own).getLsbD n = true → ∀ k : Link, (t.link k).flags.getLsbD n = true

section
variable {s t : State} {own : Half}

theorem State.posted_own_bit {n : Nat} (set : own.getLsbD n = true) :
    (s.posted t own).getLsbD n = true := by
  simp only [State.posted, BitVec.getLsbD_or, set, Bool.true_or]

theorem State.posted_gone_bits (some : ∃ i, s.gone t i = true) :
    (s.posted t own).getLsbD 0 = true ∧ (s.posted t own).getLsbD 7 = true := by
  simp only [State.posted, BitVec.getLsbD_or, if_pos some]
  simp

theorem State.posted_class_bit (changed : t.classes ≠ s.classes) :
    (s.posted t own).getLsbD 1 = true := by
  simp only [State.posted, BitVec.getLsbD_or, if_neg changed]
  simp

theorem State.posted_line_bit (changed : t.lines ≠ s.lines) : (s.posted t own).getLsbD 2 = true := by
  simp only [State.posted, BitVec.getLsbD_or, if_neg changed]
  simp

theorem State.posted_mode_bit (changed : t.mode ≠ s.mode) : (s.posted t own).getLsbD 3 = true := by
  simp only [State.posted, BitVec.getLsbD_or, if_neg changed]
  simp

end

/-! ### The release gate -/

/-- What the gate does: the lines move, and the part settles in VERIFY where none is then HELD (R118, R120). -/
theorem State.gate_cases (u : State) :
    (u.mode = .verify ∧ (∀ i : Fin 6, u.gate.lines[i].state ≠ .held) ∧
      u.gate = (u.moveLines (evaluatedLines u.classes u.lines)).settle) ∨
    ((u.mode ≠ .verify ∨ ∃ i : Fin 6, u.gate.lines[i].state = .held) ∧
      u.gate = u.moveLines (evaluatedLines u.classes u.lines)) := by
  have lines := (u.moveLines_lines (evaluatedLines u.classes u.lines)).trans u.gate_lines.symm
  have mode := u.moveLines_mode (evaluatedLines u.classes u.lines)
  by_cases decided : u.mode = .verify ∧ ∀ i : Fin 6, u.gate.lines[i].state ≠ .held
  · refine .inl ⟨decided.1, decided.2, if_pos ⟨mode.trans decided.1, ?_⟩⟩
    rw [anyLine_eq_false, lines]
    exact decided.2
  · refine .inr ⟨?_, if_neg fun h => decided ⟨mode.symm.trans h.1, ?_⟩⟩
    · by_contra both
      obtain ⟨verify, none⟩ := not_or.1 both
      exact decided ⟨not_not.1 verify, not_exists.1 none⟩
    · rw [← lines]
      exact (anyLine_eq_false _ _).1 h.2

/-- The slots that the gate leaves: those live are SETTLED_OUT where the part settled (R121). -/
theorem State.gate_slots (u : State) (j : Fin 12) : u.gate.slots[j] =
    if u.slots[j].live = true ∧ u.mode = .verify ∧ u.gate.mode = .settled then
      u.slots[j].rejectedFor .settledOut
    else u.slots[j] := by
  rcases u.gate_cases with ⟨verify, -, e⟩ | ⟨-, e⟩
  · rw [e, State.settle_slots, State.settle_mode, State.moveLines_slots]
    simp [verify]
  · rw [e, State.moveLines_slots, State.moveLines_mode, if_neg]
    rintro ⟨-, verify, settled⟩
    cases verify.symm.trans settled

theorem verdictOf_eq (lines : Vector LineRec 6) : verdictOf lines =
    if lines[0].state = .released then
      (if ∃ i : Fin 6, lines[i].state = .locked then .degraded else .printReady)
    else .blocked := by
  simp only [verdictOf, anyLine_iff]

/-- The lines follow a change of classes through the gate (R118, R120, R121). -/
theorem State.linesFollow_gate {s u t : State} {own : Half}
    (same : u.lines = s.lines ∧ u.mode = s.mode ∧ u.verdict = s.verdict ∧ u.window = s.window ∧
      u.failedCount = s.failedCount)
    (tables : u.gate.SameTables t) (posts : s.Posts t own) : s.LinesFollow t := by
  obtain ⟨ulines, umode, uverdict, uwindow, ucount⟩ := same
  have classes : t.classes = u.classes := tables.classes.trans u.gate_classes
  have lines : t.lines = evaluatedLines u.classes u.lines := tables.lines.trans u.gate_lines
  have moved := u.moveLines_lines (evaluatedLines u.classes u.lines)
  constructor
  case lines =>
    intro i
    rw [lines, evaluatedLines, tabulate_fin, ulines, classes]
  case posts => exact fun changed => posts 2 (State.posted_line_bit changed)
  case stays =>
    intro open_
    rcases u.gate_cases with ⟨verify, none, -⟩ | ⟨-, e⟩
    · rcases open_ with other | ⟨i, held⟩
      · exact absurd (umode.symm.trans verify) other
      · rw [tables.lines] at held
        exact absurd held (none i)
    · rw [tables.mode, tables.verdict, tables.window, tables.failedCount, e, State.moveLines_mode,
        State.moveLines_verdict, State.moveLines_window, State.moveLines_failedCount]
      exact ⟨umode, uverdict, uwindow, ucount⟩
  case settles =>
    intro verify decided
    rcases u.gate_cases with ⟨-, -, e⟩ | ⟨other | ⟨i, held⟩, -⟩
    · have settled : t.mode = .settled := by rw [tables.mode, e, State.settle_mode]
      have verdict : t.verdict = verdictOf t.lines := by
        rw [tables.verdict, e, State.settle_eq, moved, lines]
        rfl
      refine ⟨settled, verdict.trans (verdictOf_eq _), ?_, ?_, ?_⟩
      · rw [tables.window, e, State.settle_window, State.moveLines_window, uwindow]
        rfl
      · rw [verdict, tables.failedCount, e, State.settle_eq]
        change State.settledCount _ = _
        rw [State.settledCount, moved, lines, State.moveLines_failedCount, ucount]
      · exact posts 3 (State.posted_mode_bit (by rw [settled, verify]; exact nofun))
    · exact absurd (umode.trans verify) other
    · rw [← tables.lines] at held
      exact absurd held (decided i)

/-! ### The end of an event -/

theorem ClassRec.closed_ne {x : ClassRec} (pending : x.state = .pending) : x.closed ≠ x := by
  intro same
  have state := congrArg ClassRec.state same
  rw [pending, ClassRec.closed] at state
  split at state <;> cases state

theorem State.conclude_cases (before u : State) :
    before.conclude u = (before.closeExhausted u).gate ∨ before.conclude u = before.closeExhausted u := by
  simp only [State.conclude]
  split
  · exact .inl rfl
  · exact .inr rfl

/-- The slots that the end of an event leaves (R121). -/
theorem State.conclude_slots (before u : State) (j : Fin 12) : (before.conclude u).slots[j] =
    if u.slots[j].live = true ∧ u.mode = .verify ∧ (before.conclude u).mode = .settled then
      u.slots[j].rejectedFor .settledOut
    else u.slots[j] := by
  have closed : (before.closeExhausted u).slots = u.slots ∧ (before.closeExhausted u).mode = u.mode := by
    unfold State.closeExhausted
    split <;> exact ⟨rfl, rfl⟩
  obtain ⟨slots, mode⟩ := closed
  rcases before.conclude_cases u with e | e <;> rw [e]
  · rw [State.gate_slots, slots, mode]
  · rw [slots, mode, if_neg]
    rintro ⟨-, verify, settled⟩
    cases verify.symm.trans settled

theorem State.conclude_classes (before u : State) (c : Fin 8) : (before.conclude u).classes[c] =
    if before.closes u c then u.classes[c].closed else u.classes[c] := by
  rw [← State.closeExhausted_classes]
  rcases before.conclude_cases u with e | e <;> rw [e]
  rw [State.gate_classes]

theorem State.closeExhausted_same (before u : State) :
    (before.closeExhausted u).lines = u.lines ∧ (before.closeExhausted u).mode = u.mode ∧
      (before.closeExhausted u).verdict = u.verdict ∧ (before.closeExhausted u).window = u.window ∧
      (before.closeExhausted u).failedCount = u.failedCount := by
  unfold State.closeExhausted
  split <;> exact ⟨rfl, rfl, rfl, rfl, rfl⟩

/-- The lines follow the end of an event that closed a class or won one (R106, R118). -/
theorem State.linesFollow_conclude {before s u t : State} {own : Half}
    (same : u.lines = s.lines ∧ u.mode = s.mode ∧ u.verdict = s.verdict ∧ u.window = s.window ∧
      u.failedCount = s.failedCount)
    (moved : (∃ c, before.closes u c = true) ∨ before.wins u = true)
    (tables : (before.conclude u).SameTables t) (posts : s.Posts t own) : s.LinesFollow t := by
  rw [State.conclude_gate moved] at tables
  obtain ⟨lines, mode, verdict, window, count⟩ := before.closeExhausted_same u
  obtain ⟨ulines, umode, uverdict, uwindow, ucount⟩ := same
  exact State.linesFollow_gate ⟨lines.trans ulines, mode.trans umode, verdict.trans uverdict,
    window.trans uwindow, count.trans ucount⟩ tables posts

/-- An event, before its end, that rejected some live slots of a part that it found as `s`, each for its
reason. -/
structure State.Names (s u : State) (named : Fin 12 → Prop) (reason : Fin 12 → FaultCode) : Prop where
  live   : ∀ j, named j → s.slots[j].live = true
  slots  : ∀ j : Fin 12, (named j → u.slots[j] = s.slots[j].rejectedFor (reason j)) ∧
    (¬named j → u.slots[j] = s.slots[j])
  tables : u.classes = s.classes ∧ u.lines = s.lines ∧ u.mode = s.mode ∧ u.verdict = s.verdict ∧
    u.window = s.window ∧ u.failedCount = s.failedCount

section
variable {before s u t : State} {named : Fin 12 → Prop} {reason : Fin 12 → FaultCode}
  (h : s.Names u named reason)
include h

theorem State.Names.live_iff (j : Fin 12) :
    u.slots[j].live = true ↔ s.slots[j].live = true ∧ ¬named j := by
  obtain ⟨rejected, kept⟩ := h.slots j
  by_cases n : named j
  · rw [rejected n]
    exact iff_of_false nofun fun h => h.2 n
  · rw [kept n]
    exact (and_iff_left n).symm

theorem State.Names.not_live {j : Fin 12} (n : named j) : u.slots[j].live = false :=
  Bool.eq_false_iff.2 fun l => ((h.live_iff j).1 l).2 n

/-- A class closes where the slots that it lost exhaust it (R111, R112). -/
theorem State.Names.closes_iff
    (departs : ∀ c, s.classes[c].state = .pending →
      ((∃ i : Fin 12, before.slots[i].live = true ∧ before.slots[i].cls = some c ∧
        u.slots[i].live = false) ↔ ∃ j : Fin 12, named j ∧ s.slots[j].cls = some c))
    (c : Fin 8) : before.closes u c = true ↔ s.Exhausts named c := by
  have last : (∀ i : Fin 12, u.slots[i].live = true → u.slots[i].cls ≠ some c) ↔
      ∀ j : Fin 12, s.slots[j].live = true → s.slots[j].cls = some c → named j := by
    refine forall_congr' fun j => ?_
    rw [h.live_iff j]
    by_cases n : named j
    · exact iff_of_true (fun l => absurd n l.2) fun _ _ => n
    · rw [(h.slots j).2 n]
      exact ⟨fun none l cls => absurd cls (none ⟨l, n⟩), fun all l cls => n (all l.1 cls)⟩
  rw [State.closes_iff, h.tables.1, last, State.Exhausts]
  constructor
  · rintro ⟨left, pending, attempts, all⟩
    exact ⟨pending, attempts, (departs c pending).1 left, all⟩
  · rintro ⟨pending, attempts, left, all⟩
    exact ⟨(departs c pending).2 left, pending, attempts, all⟩

/-- What the end of such an event brings (R17, R106, R111, R112, R118, R121). -/
theorem State.Names.rejectsFor {won : Prop} {own : Half}
    (departs : ∀ c, s.classes[c].state = .pending →
      ((∃ i : Fin 12, before.slots[i].live = true ∧ before.slots[i].cls = some c ∧
        u.slots[i].live = false) ↔ ∃ j : Fin 12, named j ∧ s.slots[j].cls = some c))
    (wins : before.wins u = true ↔ won) (ownBit : won → own.getLsbD 1 = true)
    (tables : (before.conclude u).SameTables t) (posts : s.Posts t own) :
    s.RejectsFor t named reason won := by
  obtain ⟨uclasses, same⟩ := h.tables
  have closes := h.closes_iff departs
  have classes (c : Fin 8) : t.classes[c] =
      if before.closes u c then s.classes[c].closed else s.classes[c] := by
    rw [tables.classes, State.conclude_classes, uclasses]
  constructor
  case slots =>
    intro j
    have slot := before.conclude_slots u j
    rw [← tables.slots, ← tables.mode] at slot
    refine ⟨fun n => ?_, fun n => ?_⟩
    · rw [slot, if_neg fun l => ((h.live_iff j).1 l.1).2 n, (h.slots j).1 n]
    · rw [slot, (h.slots j).2 n, same.2.1]
  case classes =>
    intro c
    refine ⟨fun exhausts => ?_, fun kept => ?_⟩
    · rw [classes, if_pos ((closes c).2 exhausts)]
      rfl
    · rw [classes, if_neg fun k => kept ((closes c).1 k)]
  case closes =>
    intro moved
    refine ⟨State.linesFollow_conclude same ?_ tables posts, posts 1 ?_⟩
    · rcases moved with w | ⟨c, exhausts⟩
      · exact .inr (wins.2 w)
      · exact .inl ⟨c, (closes c).2 exhausts⟩
    · rcases moved with w | ⟨c, exhausts⟩
      · exact State.posted_own_bit (ownBit w)
      · refine State.posted_class_bit fun eq => ?_
        have changed := classes c
        rw [eq, if_pos ((closes c).2 exhausts)] at changed
        exact ClassRec.closed_ne exhausts.1 changed.symm
  case stays =>
    intro lost none
    have still : before.conclude u = u := State.conclude_still
      (fun c => Bool.eq_false_iff.2 fun k => none c ((closes c).1 k))
      (Bool.eq_false_iff.2 fun w => lost (wins.1 w))
    rw [still] at tables
    obtain ⟨lines, mode, verdict, window, count⟩ := same
    exact ⟨tables.lines.trans lines, tables.mode.trans mode, tables.verdict.trans verdict,
      tables.window.trans window, tables.failedCount.trans count⟩

end

/-! ### The close of the event -/

theorem State.Amid.commit_flags {s u : State} {own : Half} (h : s.Amid u own) (k : Link) :
    (u.commit.link k).flags = (s.link k).flags ||| s.posted u own := by
  obtain ⟨m, e⟩ := h.links
  cases k with
  | m => exact (LinkState.close_flags u.linkM).trans (by rw [m]; rfl)
  | e => exact (LinkState.close_flags u.linkE).trans (by rw [e]; rfl)

/-- The event closes: what its rejections brought stands in the obligations' words. -/
theorem State.Amid.ordersFollow {s u : State} {own : Half} (h : s.Amid u own)
    {orders : List (FaultCode × Option (Fin 10))} (faults : u.faults = orders.foldl (s.recorded u) s.faults) :
    s.OrdersFollow u.commit own orders := by
  obtain ⟨m, e⟩ := h.links
  have units := h.units
  refine ⟨h.ctxs, h.jobs, faults, fun some k => ?_, ⟨?_, ?_⟩, ?_, ?_⟩
  · obtain ⟨done, fault⟩ := State.posted_gone_bits (own := own) some
    have both (n : Nat) (bit : (s.posted u own).getLsbD n = true) :
        (u.commit.link k).flags.getLsbD n = true := by
      rw [h.commit_flags, BitVec.getLsbD_or, bit, Bool.or_true]
    exact ⟨both 0 done, both 7 fault⟩
  · exact congrArg LinkState.close m
  · exact congrArg LinkState.close e
  all_goals
    obtain ⟨_, _, _, _, _, _, _, _, _, _, _, _, _, rfl⟩ := units
  · exact ⟨rfl, rfl, rfl, rfl, rfl⟩
  · exact ⟨rfl, rfl, rfl, rfl, rfl, rfl, rfl, rfl, rfl, rfl, rfl, rfl, rfl⟩

theorem State.Amid.posts_commit {s u : State} {own : Half} (h : s.Amid u own) : s.Posts u.commit own := by
  intro n bit k
  have same : s.posted u.commit own = s.posted u own := rfl
  rw [h.commit_flags, BitVec.getLsbD_or, ← same, bit, Bool.or_true]

theorem State.sameTables_commit (u : State) : u.SameTables u.commit := ⟨rfl, rfl, rfl, rfl, rfl, rfl, rfl⟩

end Sys2Proof.Machine
end

section
/-! SUPPORT. An event that rejected some slots, from its end to its close, with the reply of a request taken in
it (R17, R106, R112, R166, R171). -/

namespace Sys2Proof.Machine

section
variable {before s u : State} {named : Fin 12 → Prop} {reason : Fin 12 → FaultCode}

/-- A slot that the event rejected is one that it names. -/
theorem State.Names.of_gone (h : s.Names u named reason) {i : Fin 12} (gone : s.gone u i = true) :
    named i := by
  by_contra other
  obtain ⟨live, rejected⟩ := (s.gone_iff u i).1 gone
  rw [(h.slots i).2 other] at rejected
  rw [Slot.live, rejected] at live
  cases live

theorem State.Names.fresh (h : s.Names u named reason) {r : FaultCode}
    (other : ∀ j, named j → reason j ≠ r) (i : Fin 12) (gone : s.gone u i = true) :
    u.slots[i].reason ≠ some r := by
  have names := h.of_gone gone
  rw [(h.slots i).1 names]
  exact fun same => other i names (Option.some.inj same)

/-- The event ends: exhaustion, lines and settling follow its rejections, and SETTLED_OUT is the order that
they may give. -/
theorem State.Names.concludes (h : s.Names u named reason) {own : Half} (amid : s.Amid u own)
    (before : State) (other : ∀ j, named j → reason j ≠ .settledOut) :
    s.Orders u (before.conclude u) own .settledOut none :=
  amid.conclude h.tables.2.2.1 (h.fresh other) before h.tables.2.1 (.inl h.tables.1)

end

/-- The faults of one order, as a list of orders. -/
theorem State.Orders.foldl {s u t : State} {own : Half} {r : FaultCode} {k : Option (Fin 10)}
    (h : s.Orders u t own r k) (faults : u.faults = s.faults) :
    t.faults = [(r, k)].foldl (s.recorded t) s.faults := by
  rw [h.faults, faults]
  rfl

theorem State.Orders.foldl_two {s u v t : State} {own own' : Half} {r r' : FaultCode}
    {k k' : Option (Fin 10)} (first : s.Orders u v own r k) (second : s.Orders v t own' r' k')
    (ne : r ≠ r') (faults : u.faults = s.faults) :
    t.faults = [(r, k), (r', k')].foldl (s.recorded t) s.faults := by
  rw [second.faults, first.faults, faults]
  exact congrArg (fun w => s.recorded t w (r', k')) (second.others _ r k ne).symm

/-! ### The part that an event is taken to have found -/

/-- Fault records stored before any order do not matter to what the orders leave. -/
theorem State.Amid.withFaults {s u : State} {own : Half} (h : s.Amid u own)
    (v : Vector FaultRecord 4) : ({ s with faults := v } : State).Amid u own := by
  refine ⟨?_, h.live, h.ctxs, h.chunks, h.jobs, h.links⟩
  obtain ⟨_, _, _, _, _, _, _, _, _, _, _, _, _, rfl⟩ := h.units
  exact ⟨_, _, _, _, _, _, _, _, _, _, _, _, _, rfl⟩

theorem State.LinesFollow.of_same {s b t : State} (h : b.LinesFollow t)
    (same : b.lines = s.lines ∧ b.mode = s.mode ∧ b.verdict = s.verdict ∧ b.window = s.window ∧
      b.failedCount = s.failedCount) : s.LinesFollow t := by
  obtain ⟨lines, mode, verdict, window, count⟩ := same
  refine ⟨?_, ?_, ?_, ?_⟩
  · rw [← lines]
    exact h.lines
  · rw [← lines]
    exact h.posts
  · rw [← mode, ← verdict, ← window, ← count]
    exact h.stays
  · rw [← mode, ← window, ← count]
    exact h.settles

theorem State.SlotFollows.of_same {s b t : State} {c : Fin 8} {r : FaultCode} {j : Fin 12}
    (h : b.SlotFollows t c r j) (same : s.SameTables b) : s.SlotFollows t c r j := by
  rw [State.SlotFollows, ← same.slots, ← same.mode]
  exact h

theorem State.RejectsFor.of_same {s b t : State} {named : Fin 12 → Prop} {reason : Fin 12 → FaultCode}
    {won : Prop} (h : b.RejectsFor t named reason won) (same : s.SameTables b) :
    s.RejectsFor t named reason won := by
  obtain ⟨slots, classes, lines, mode, verdict, window, count⟩ := same
  have exhausts (c : Fin 8) : s.Exhausts named c ↔ b.Exhausts named c := by
    simp only [State.Exhausts, slots, classes]
  refine ⟨fun j => ?_, fun c => ?_, fun moved => ?_, fun lost none => ?_⟩
  · rw [← slots, ← mode]
    exact h.slots j
  · rw [← classes, exhausts]
    exact h.classes c
  · simp only [exhausts] at moved
    obtain ⟨follow, flags⟩ := h.closes moved
    exact ⟨follow.of_same ⟨lines, mode, verdict, window, count⟩, flags⟩
  · simp only [exhausts] at none
    obtain ⟨l, m, v, w, f⟩ := h.stays lost none
    exact ⟨l.trans lines, m.trans mode, v.trans verdict, w.trans window, f.trans count⟩

/-! ### Replies -/

theorem State.Amid.putReply {s u : State} {own : Half} (h : s.Amid u own) (l : Link) (r : Reply) :
    (s.putReply l r).Amid (u.putReply l r) own := by
  obtain ⟨m, e⟩ := h.links
  have posted : ∀ l : Link, (s.putReply l r).posted (u.putReply l r) own = s.posted u own
    | .m => rfl
    | .e => rfl
  cases l with
  | m =>
    refine ⟨?_, h.live, h.ctxs, h.chunks, h.jobs, ?_, e⟩
    · obtain ⟨_, _, _, _, _, _, _, _, _, _, _, _, _, rfl⟩ := h.units
      exact ⟨_, _, _, _, _, _, _, _, _, _, _, _, _, rfl⟩
    · exact congrArg (fun x : LinkState => { x with ordinary := some r }) m
  | e =>
    refine ⟨?_, h.live, h.ctxs, h.chunks, h.jobs, m, ?_⟩
    · obtain ⟨_, _, _, _, _, _, _, _, _, _, _, _, _, rfl⟩ := h.units
      exact ⟨_, _, _, _, _, _, _, _, _, _, _, _, _, rfl⟩
    · exact congrArg (fun x : LinkState => { x with ordinary := some r }) e

theorem State.sameTables_putReply (u : State) (l : Link) (r : Reply) : u.SameTables (u.putReply l r) := by
  cases l <;> exact ⟨rfl, rfl, rfl, rfl, rfl, rfl, rfl⟩

theorem State.sameTables_taking (s : State) (l : Link) : s.SameTables (s.taking l) := by
  cases l <;> exact ⟨rfl, rfl, rfl, rfl, rfl, rfl, rfl⟩

theorem State.taking_putReply (s : State) (l : Link) (r : Reply) :
    (s.taking l).putReply l r = s.replying l r := by cases l <;> rfl

theorem State.putReply_ordinary (u : State) (l : Link) (r : Reply) :
    ((u.putReply l r).commit.link l).ordinary = some r := by
  cases l <;> exact LinkState.close_ordinary _

theorem State.raised_putReply (u : State) (bits : Half) (l : Link) (r : Reply) :
    (u.raised bits).putReply l r = (u.putReply l r).raised bits := by cases l <;> rfl

/-! ### One rejection, whole -/

/-- A live slot's rejection (R16, R18). -/
theorem State.reject_eq {s : State} {i : Fin 12} (live : s.slots[i].live = true) (r : FaultCode)
    (g : Option Byte) (k : Option (Fin 10)) (d : List Byte) : s.reject i r g k d =
      State.raised { s with
        slots := put s.slots i (s.slots[i].rejectedFor r)
        ctxs := tabulate fun x => s.ctxs[x].filter fun c => c.slot != i
        chunkQueue := s.chunkQueue.filter fun ch => !(ch.slot == i && ch.gen == s.slots[i].gen)
        jobs := s.jobs.filter fun j => j != .manifest i s.slots[i].gen
        faults := storeFault s.faults (s.rejection i r g k d) } 0x081 := by
  have slots := State.reject_slots live r g k d
  have twice (v : Half) : v ||| 0x080 ||| 0x001 = v ||| 0x081 := by rw [BitVec.or_assoc]; rfl
  simp only [State.reject] at slots ⊢
  rw [if_pos live] at slots ⊢
  simp only [State.post, State.recordFault, State.setSlot] at slots ⊢
  rw [slots]
  simp only [State.release, State.setSlot, LinkState.raise, flagBit, twice, State.raised]
  rfl

/-- A slot without work has none released. -/
theorem State.release_none {s : State} {i : Fin 12}
    (ctxs : ∀ x : Fin 4, ∀ claim, s.ctxs[x] = some claim → claim.slot ≠ i)
    (chunks : ∀ ch ∈ s.chunkQueue, ch.slot ≠ i) (jobs : ∀ g, Job.manifest i g ∉ s.jobs) :
    (tabulate fun x => s.ctxs[x].filter fun c => c.slot != i) = s.ctxs ∧
      (s.chunkQueue.filter fun ch => !(ch.slot == i && ch.gen == s.slots[i].gen)) = s.chunkQueue ∧
      (s.jobs.filter fun j => j != .manifest i s.slots[i].gen) = s.jobs := by
  refine ⟨?_, ?_, ?_⟩
  · refine Vector.ext fun x hx => ?_
    rw [tabulate_getElem _ x hx]
    have claimed := ctxs ⟨x, hx⟩
    change Option.filter _ s.ctxs[(⟨x, hx⟩ : Fin 4)] = s.ctxs[(⟨x, hx⟩ : Fin 4)]
    cases claim : s.ctxs[(⟨x, hx⟩ : Fin 4)] with
    | none => rfl
    | some c => exact Option.filter_some_pos (by simpa using claimed c claim)
  · refine List.filter_eq_self.2 fun ch mem => ?_
    rw [beq_false_of_ne (chunks ch mem)]
    rfl
  · refine List.filter_eq_self.2 fun j mem => ?_
    rw [bne_iff_ne]
    rintro rfl
    exact jobs _ mem

/-- One slot rejected, and no other. -/
theorem State.names_reject {s : State} {i : Fin 12} (live : s.slots[i].live = true) (r : FaultCode)
    (g : Option Byte) (k : Option (Fin 10)) (d : List Byte) :
    s.Names (s.reject i r g k d) (fun j => j = i) fun _ => r := by
  refine ⟨fun j ji => ji ▸ live, fun j => ?_, ?_⟩
  · rw [State.reject_slots live, put_fin]
    refine ⟨fun ji => ?_, fun ji => if_neg ji⟩
    subst ji
    rw [if_pos rfl]
  · exact ⟨State.reject_classes .., State.reject_lines .., State.reject_mode .., State.reject_verdict ..,
      State.reject_window .., State.reject_failedCount ..⟩

/-- The classes that the named slots leave, where the event found them live and every other slot that lost its
life stood in a class that is not PENDING. -/
theorem State.Names.departs {s u : State} {named : Fin 12 → Prop} {reason : Fin 12 → FaultCode}
    (h : s.Names u named reason) (c : Fin 8) :
    (∃ i : Fin 12, s.slots[i].live = true ∧ s.slots[i].cls = some c ∧ u.slots[i].live = false) ↔
      ∃ j : Fin 12, named j ∧ s.slots[j].cls = some c := by
  constructor
  · rintro ⟨i, live, cls, dead⟩
    refine ⟨i, ?_, cls⟩
    by_contra other
    rw [(h.slots i).2 other, live] at dead
    cases dead
  · rintro ⟨j, n, cls⟩
    exact ⟨j, h.live j n, cls, h.not_live n⟩

/-- Rejections alone win no class. -/
theorem State.Names.wins {s u : State} {named : Fin 12 → Prop} {reason : Fin 12 → FaultCode}
    (h : s.Names u named reason) : s.wins u = false := by
  rw [State.wins, List.any_eq_false]
  intro i _ won
  rw [Bool.and_eq_true, Bool.and_eq_true, beq_iff_eq] at won
  obtain ⟨⟨live, -⟩, verified⟩ := won
  by_cases n : named i
  · rw [(h.slots i).1 n] at verified
    cases verified
  · rw [(h.slots i).2 n] at verified
    rw [Slot.live, verified] at live
    cases live

theorem State.Names.withFaults {s u : State} {named : Fin 12 → Prop} {reason : Fin 12 → FaultCode}
    (h : s.Names u named reason) (v : Vector FaultRecord 4) :
    ({ s with faults := v } : State).Names u named reason := ⟨h.live, h.slots, h.tables⟩

theorem State.SameTables.trans {s t u : State} (h : s.SameTables t) (k : t.SameTables u) : s.SameTables u :=
  ⟨k.slots.trans h.slots, k.classes.trans h.classes, k.lines.trans h.lines, k.mode.trans h.mode,
    k.verdict.trans h.verdict, k.window.trans h.window, k.failedCount.trans h.failedCount⟩

theorem State.SameUnits.core {s u : State} (h : s.SameUnits u) : u.core = s.core := by
  obtain ⟨_, _, _, _, _, _, _, _, _, _, _, _, _, rfl⟩ := h
  rfl

theorem State.SameUnits.fuses {s u : State} (h : s.SameUnits u) : u.fuses = s.fuses := by
  obtain ⟨_, _, _, _, _, _, _, _, _, _, _, _, _, rfl⟩ := h
  rfl

theorem State.posts_putReply {s t : State} {own : Half} {l : Link} {r : Reply}
    (h : (s.putReply l r).Posts t own) : s.Posts t own := by
  cases l <;> exact h

theorem State.LinesFollow.after {s t t' : State} (h : s.LinesFollow t) (same : t.SameTables t')
    (links : ∀ k, (t'.link k).flags = (t.link k).flags) : s.LinesFollow t' := by
  obtain ⟨-, classes, lines, mode, verdict, window, count⟩ := same
  refine ⟨?_, ?_, ?_, ?_⟩
  · rw [lines, classes]
    exact h.lines
  · simp only [lines, links]
    exact h.posts
  · rw [lines, mode, verdict, window, count]
    exact h.stays
  · simp only [lines, mode, verdict, window, count, links]
    exact h.settles

theorem State.RejectsFor.after {s t t' : State} {named : Fin 12 → Prop} {reason : Fin 12 → FaultCode}
    {won : Prop} (h : s.RejectsFor t named reason won) (same : t.SameTables t')
    (links : ∀ k, (t'.link k).flags = (t.link k).flags) : s.RejectsFor t' named reason won := by
  obtain ⟨slots, classes, lines, mode, verdict, window, count⟩ := same
  refine ⟨fun j => ?_, fun c => ?_, fun moved => ?_, fun lost none => ?_⟩
  · rw [slots, mode]
    exact h.slots j
  · rw [classes]
    exact h.classes c
  · obtain ⟨follow, flags⟩ := h.closes moved
    exact ⟨follow.after ⟨slots, classes, lines, mode, verdict, window, count⟩ links,
      fun k => by rw [links]; exact flags k⟩
  · rw [lines, mode, verdict, window, count]
    exact h.stays lost none

/-- An event that rejected some slots, closed. -/
theorem State.Names.ends {before s u : State} {named : Fin 12 → Prop} {reason : Fin 12 → FaultCode}
    (h : s.Names u named reason) {own : Half} (amid : s.Amid u own) (faults : u.faults = s.faults)
    (other : ∀ j, named j → reason j ≠ .settledOut)
    (departs : ∀ c, s.classes[c].state = .pending →
      ((∃ i : Fin 12, before.slots[i].live = true ∧ before.slots[i].cls = some c ∧
        u.slots[i].live = false) ↔ ∃ j : Fin 12, named j ∧ s.slots[j].cls = some c))
    {won : Prop} (wins : before.wins u = true ↔ won) (ownBit : won → own.getLsbD 1 = true) :
    s.RejectsFor (before.conclude u).commit named reason won ∧
      s.OrdersFollow (before.conclude u).commit own [(.settledOut, none)] ∧
      (before.conclude u).chunkQueue = s.chunksLeft (before.conclude u) := by
  have ordered := h.concludes amid before other
  exact ⟨h.rejectsFor departs wins ownBit (State.sameTables_commit _) ordered.amid.posts_commit,
    ordered.amid.ordersFollow (ordered.foldl faults), ordered.amid.chunks⟩

/-- A request whose event rejected some slots, for no class won, answered. -/
theorem State.Names.replies {before s u : State} {named : Fin 12 → Prop} {reason : Fin 12 → FaultCode}
    (h : s.Names u named reason) (amid : s.Amid u 0) (faults : u.faults = s.faults)
    (other : ∀ j, named j → reason j ≠ .settledOut)
    (departs : ∀ c, s.classes[c].state = .pending →
      ((∃ i : Fin 12, before.slots[i].live = true ∧ before.slots[i].cls = some c ∧
        u.slots[i].live = false) ↔ ∃ j : Fin 12, named j ∧ s.slots[j].cls = some c))
    (wins : before.wins u = false) {l : Link} {r : Reply} {t : State}
    (ends : ((before.conclude u).putReply l r).commit = t) :
    s.RejectsFor t named reason False ∧ (s.putReply l r).OrdersFollow t 0 [(.settledOut, none)] ∧
      t.chunkQueue = s.chunksLeft t ∧ t.core = s.core ∧ (t.link l).ordinary = some r := by
  subst ends
  have ordered := h.concludes amid before other
  have answered := ordered.amid.putReply l r
  have tables : (before.conclude u).SameTables ((before.conclude u).putReply l r).commit :=
    (State.sameTables_putReply _ l r).trans (State.sameTables_commit _)
  have left : (s.putReply l r).recorded ((before.conclude u).putReply l r) =
      s.recorded (before.conclude u) := by cases l <;> rfl
  refine ⟨?_, answered.ordersFollow ?_, ?_, ?_, State.putReply_ordinary _ l r⟩
  · exact h.rejectsFor departs ⟨fun w => absurd w (Bool.eq_false_iff.1 wins), False.elim⟩ False.elim tables
      (State.posts_putReply answered.posts_commit)
  · rw [left, State.putReply_faults, State.putReply_faults]
    exact ordered.foldl faults
  · refine answered.chunks.trans ?_
    cases l <;> rfl
  · exact answered.units.core.trans (State.putReply_core ..)

end Sys2Proof.Machine
end

section
/-! SUPPORT. MAN_CLOSE of a manifest that fails a check (R13). -/

namespace Sys2Proof.Machine

theorem State.keyChecks_code {s : State} {c : Fin 8} {h : Head} {k : Fin 10} {e : CheckFailure}
    (bad : s.keyChecks c h k = some e) : e.code ≠ .settledOut := by
  unfold State.keyChecks at bad
  split_ifs at bad <;> cases bad <;> exact nofun

theorem State.manifestChecks_code {s : State} {c : Fin 8} {b : List Byte} {e : CheckFailure}
    (bad : s.manifestChecks c b = .error e) : e.code ≠ .settledOut := by
  unfold State.manifestChecks at bad
  simp only [] at bad
  split_ifs at bad
  · cases bad; exact nofun
  · cases bad; exact nofun
  · cases bad; exact nofun
  · split at bad
    · cases bad; exact nofun
    · split at bad
      next fails =>
        cases bad
        exact State.keyChecks_code fails
      · cases bad

end Sys2Proof.Machine

namespace Sys2Proof
open Machine

/-- Settles O15: one slot rejected in a request, and the end of its event. -/
theorem manCloseRejects : Obligations.ManCloseRejects := by
  intro s l tag i c e rest ready mode state owner cls bad command reply faults
  have live : s.slots[i].live = true := (Slot.live_iff _).2 (.inl state)
  obtain ⟨x, hx⟩ : ∃ x, x = s.taking l := ⟨_, rfl⟩
  have slots : x.slots = s.slots := by rw [hx, State.taking_slots]
  have xlive : x.slots[i].live = true := by rw [slots]; exact live
  have xmode : x.mode = .verify ∨ x.mode = .settled := by rw [hx]; simpa using mode
  have checks : x.manifestChecks c x.slots[i].buffer = .error e := by
    rw [slots, ← bad, hx]
    cases l <;> rfl
  have answers : exec command s = .next
      ((x.conclude (x.reject i e.code none e.key e.detail)).putReply l reply).commit :=
    exec_answers (k := .manClose) (payload := [byteOf i]) ready (Nat.le_add_left 1 _) rfl fun f payload =>
      hx ▸ (takeManClose_loading xmode l payload (c := c) (by rw [slots]; exact state)
        (by rw [slots]; exact owner) (by rw [slots]; exact cls)).trans (State.closeManifest_bad checks)
  have names := x.names_reject xlive e.code none e.key e.detail
  have stored : (x.reject i e.code none e.key e.detail).faults = faults := by
    rw [State.reject_faults, State.rejection, slots, owner, cls, hx]
    cases l <;> rfl
  refine ⟨fun kept ctxs chunks jobs => ?_, fun pending attempts last => ?_⟩
  · have still : x.conclude (x.reject i e.code none e.key e.detail) =
        x.reject i e.code none e.key e.detail := by
      refine State.conclude_still (fun d => Bool.eq_false_iff.2 fun closes => kept ?_) names.wins
      have exhausts := (names.closes_iff (fun d _ => names.departs d) d).1 closes
      obtain ⟨j, rfl, own⟩ := exhausts.2.2.1
      rw [slots] at own
      obtain rfl : d = c := Option.some.inj (own.symm.trans cls)
      rw [hx] at exhausts
      cases l <;> exact exhausts
    obtain ⟨noCtx, noChunk, noJob⟩ := State.release_none ctxs chunks jobs
    have noCtx' : (tabulate fun y => x.ctxs[y].filter fun d => d.slot != i) = s.ctxs := by
      rw [hx]
      cases l <;> exact noCtx
    have noChunk' : (x.chunkQueue.filter fun ch => !(ch.slot == i && ch.gen == x.slots[i].gen)) =
        s.chunkQueue := by
      rw [hx]
      cases l <;> exact noChunk
    have noJob' : (x.jobs.filter fun j => j != .manifest i x.slots[i].gen) = s.jobs := by
      rw [hx]
      cases l <;> exact noJob
    rw [answers, still, State.reject_eq xlive, State.raised_putReply, State.raised_commit, noCtx',
      noChunk', noJob', ← State.reject_faults, stored, hx]
    cases l <;> rfl
  · have same : s.SameTables { x with faults := faults } := by
      rw [hx]
      cases l <;> exact ⟨rfl, rfl, rfl, rfl, rfl, rfl, rfl⟩
    have replying : State.putReply { x with faults := faults } l reply =
        State.replying { s with faults := faults } l reply := by
      rw [hx]
      cases l <;> rfl
    obtain ⟨rejects, orders, chunks, core, ordinary⟩ := (names.withFaults faults).replies
      (((State.Amid.refl x).reject xlive e.code none e.key e.detail).withFaults faults) stored
      (fun _ _ => State.manifestChecks_code bad) (fun d _ => names.departs d) names.wins rfl
    have rejectsAll := rejects.of_same same
    rw [replying] at orders
    refine ⟨_, answers, rejectsAll, orders, chunks.trans ?_, core.trans ?_, ?_, ordinary⟩
    · rw [hx]
      cases l <;> rfl
    · rw [hx]
      cases l <;> rfl
    · refine (rejectsAll.classes c).1 ⟨pending, attempts, ⟨i, rfl, cls⟩, fun j other own => ?_⟩
      by_contra ji
      exact last j ji other own

end Sys2Proof
end

section
/-! SUPPORT. A context that completes: the segment's mark or the slot's rejection, and the end of the event (R21,
R22, R50 to R54). -/

namespace Sys2Proof.Machine

theorem State.reportApplies_iff (s : State) (i : Fin 12) (gen : Byte) :
    s.reportApplies i gen = true ↔ s.slots[i].live = true ∧ s.slots[i].gen = gen := by
  rw [State.reportApplies, Bool.and_eq_true, beq_iff_eq]

section
variable {s : State} {x : Fin 4} {c : Claim} (live : s.slots[c.slot].live = true)
  (gen : s.slots[c.slot].gen = c.gen)
include live gen

/-- Equal digests: the mark, and VERIFIED for a SIGNED slot whose map is full (R21). -/
theorem State.completeCtx_match
    (equal : sha256 c.folded = slice s.slots[c.slot].buffer (48 + 32 * c.seg) 32) :
    s.completeCtx x c =
      if s.slots[c.slot].state = .signed ∧ (s.slots[c.slot].marked c.seg x).mapFull = true then
        (s.setCtx x none).conclude
          (((s.setCtx x none).setSlot c.slot (s.slots[c.slot].marked c.seg x)).verifySlot c.slot)
      else (s.setCtx x none).setSlot c.slot (s.slots[c.slot].marked c.seg x) :=
  (if_pos equal).trans (State.segmentMatch_eq (s := s.setCtx x none)
    ((State.reportApplies_iff _ _ _).2 ⟨live, gen⟩))

/-- Other digests: the slot is rejected, and with it the claim (R22, R52, R53). -/
theorem State.completeCtx_mismatch {d : Claim} (claimed : s.ctxs[x] = some d) (slot : d.slot = c.slot)
    (differ : sha256 c.folded ≠ slice s.slots[c.slot].buffer (48 + 32 * c.seg) 32) :
    s.completeCtx x c = s.conclude
      (s.reject c.slot .segMismatch (some (byteOf c.seg)) none
        (padTo 4 (slice s.slots[c.slot].buffer (48 + 32 * c.seg) 32) ++ padTo 4 (sha256 c.folded))) := by
  have applies : (s.setCtx x none).reportApplies c.slot c.gen = true :=
    (State.reportApplies_iff _ _ _).2 ⟨live, gen⟩
  have mismatch : s.completeCtx x c = (s.setCtx x none).segmentMismatch c
      (slice s.slots[c.slot].buffer (48 + 32 * c.seg) 32) (sha256 c.folded) := if_neg differ
  have drops (i : Fin 12) (same : d.slot = i) (l : s.slots[i].live = true) (detail : List Byte) :
      (s.setCtx x none).reject i .segMismatch (some (byteOf c.seg)) none detail =
        s.reject i .segMismatch (some (byteOf c.seg)) none detail := by
    subst same
    exact State.setCtx_none_reject claimed l ..
  rw [mismatch, State.segmentMismatch, if_pos applies, drops c.slot slot live]
  rfl

end

/-- The core takes the oldest chunk left, and the event closes. -/
theorem State.coreTake_commit {s : State} (idle : s.core = none) : s.coreTake.commit =
    { s.commit with core := s.chunkQueue.head?, chunkQueue := s.chunkQueue.tail } := by
  rw [State.coreTake_idle idle]
  rfl

/-- What the rejections of an event bring reads neither the core nor the chunks. -/
theorem State.OrdersFollow.withCore {s t : State} {own : Half}
    {orders : List (FaultCode × Option (Fin 10))} (h : s.OrdersFollow t own orders)
    (core core' : Option Chunk) (chunks : List Chunk) :
    State.OrdersFollow { s with core := core' } { t with core := core, chunkQueue := chunks } own orders :=
  ⟨h.ctxs, h.jobs, h.faults, h.posts, h.links, h.units, h.rest⟩

end Sys2Proof.Machine

namespace Sys2Proof
open Machine

/-- Settles O32: the rejection of the slot, the end of its event, and the core's next chunk. -/
theorem segmentMismatches : Obligations.SegmentMismatches := by
  intro s ch claim c rest core claimed slot gen draining last state ownGen cls i expected computed left
    faults differ
  have live : s.slots[i].live = true := (Slot.live_iff _).2 (.inr state)
  obtain ⟨w, hw⟩ : ∃ w : State, w = { s with core := none } := ⟨_, rfl⟩
  have wlive : w.slots[i].live = true := by rw [hw]; exact live
  obtain ⟨u, hu⟩ : ∃ u, u = w.reject i .segMismatch (some (byteOf claim.seg)) none
      (padTo 4 expected ++ padTo 4 computed) := ⟨_, rfl⟩
  have finished : exec .chunkDigested s = .next (w.conclude u).coreTake.commit := by
    have stands : s.chunkClaim ch = some claim := State.chunkClaim_eq_some.2 ⟨claimed, slot, gen⟩
    have done : (claim.fold ch).draining = true ∧ (claim.fold ch).pendingChunks = 0 :=
      ⟨draining, by change claim.pendingChunks - 1 = 0; rw [last]⟩
    have folded := State.finishChunk_claim core stands
    have completes : w.completeCtx ch.ctx (claim.fold ch) = w.conclude u := by
      rw [hu, hw]
      exact State.completeCtx_mismatch (s := { s with core := none }) (c := claim.fold ch) (d := claim)
        live ownGen claimed rfl differ
    rw [if_pos done, ← hw, completes] at folded
    exact congrArg (fun t => Host.Outcome.next (State.commit t)) folded
  have names : w.Names u (fun j => j = i) fun _ => .segMismatch := hu ▸ w.names_reject wlive ..
  have stored : u.faults = faults := by
    rw [hu, State.reject_faults, State.rejection, hw]
    rw [show s.slots[i].cls = some c from cls]
  have exhausts (d : Fin 8) : w.closes u d = true ↔ s.Exhausts (fun j => j = i) d := by
    rw [names.closes_iff fun d _ => names.departs d, hw]
    rfl
  have idle : (w.conclude u).core = none := by
    rw [State.conclude_core, hu, State.reject_core, hw]
  rw [finished, State.coreTake_commit idle]
  refine ⟨fun kept => ?_, fun exhausted => ?_⟩
  · have still : w.conclude u = u := by
      refine State.conclude_still (fun d => Bool.eq_false_iff.2 fun closes => kept ?_) names.wins
      have out := (exhausts d).1 closes
      obtain ⟨j, rfl, own⟩ := out.2.2.1
      obtain rfl : d = c := Option.some.inj (own.symm.trans cls)
      exact out
    have released : (tabulate fun y => s.ctxs[y].filter fun d => d.slot != i) = tabulate fun y =>
        match (put s.ctxs ch.ctx none)[y] with
        | some d => if d.slot = i then none else some d
        | none => none := by
      refine congrArg tabulate (funext fun y => ?_)
      rw [put_fin]
      by_cases here : y = ch.ctx
      · subst here
        rw [if_pos rfl, claimed]
        exact Option.filter_some_neg (by simp [i])
      · rw [if_neg here]
        cases s.ctxs[y] with
        | none => rfl
        | some d => by_cases own : d.slot = i <;> simp [own]
    rw [still, hu, State.reject_eq wlive, State.raised_commit, ← State.reject_faults, ← hu, stored, hw]
    exact congrArg (fun v => Host.Outcome.next (State.flagged
      { s with
        ctxs := v
        chunkQueue := left.tail
        core := left.head?
        jobs := s.jobs.filter fun j => j != .manifest i s.slots[i].gen
        slots := put s.slots i (s.slots[i].rejectedFor .segMismatch)
        faults := faults } 0x081)) released
  · obtain ⟨rejects, orders, chunks⟩ := (names.withFaults faults).ends (before := w)
      ((hu ▸ (State.Amid.refl w).reject wlive .. : w.Amid u 0).withFaults faults) stored (fun _ _ => nofun)
      (fun d _ => names.departs d) (won := False)
      ⟨fun w => absurd w (Bool.eq_false_iff.1 names.wins), False.elim⟩ False.elim
    have base : s.SameTables { w with faults := faults } := by
      rw [hw]
      exact ⟨rfl, rfl, rfl, rfl, rfl, rfl, rfl⟩
    refine ⟨_, rfl, (rejects.of_same base).after ⟨rfl, rfl, rfl, rfl, rfl, rfl, rfl⟩ ?_, ?_, ?_, ?_⟩
    · rintro (_ | _) <;> rfl
    · have found : ({ ({ w with faults := faults } : State) with core := s.core } : State) =
          { s with faults := faults } := by rw [hw]
      rw [← found]
      exact orders.withCore _ s.core _
    · rw [chunks, hw]
      rfl
    · rw [chunks, hw]
      rfl

end Sys2Proof
end

section
/-! SUPPORT. The rejection order of a revocation, from the burn to the close of its event (R81, R82, R93). -/

namespace Sys2Proof.Machine

/-! ### Fault records that stand -/

/-- A first-fault record, once stored, is not replaced (R158). -/
theorem storeFault_keeps {v : Vector FaultRecord 4} {n : Fin 4} (first : n ≠ 0) (filled : v[n].code ≠ .empty)
    (r : FaultRecord) : (storeFault v r)[n] = v[n] := by
  rw [storeFault_getElem, if_neg]
  rintro (zero | empty)
  · exact first zero
  · exact filled ((firstEmpty_eq_some v first).1 empty).1

theorem foldl_storeFault_keeps {ι : Type} (r : ι → FaultRecord) {n : Fin 4} (first : n ≠ 0) (names : List ι) :
    ∀ {v : Vector FaultRecord 4}, v[n].code ≠ .empty →
      (names.foldl (fun w i => storeFault w (r i)) v)[n] = v[n] := by
  induction names with
  | nil => exact fun _ => rfl
  | cons i rest ih =>
    intro v filled
    have kept := storeFault_keeps first filled (r i)
    exact (ih (v := storeFault v (r i)) (by rw [kept]; exact filled)).trans kept

theorem State.recorded_keeps (s t : State) {n : Fin 4} (first : n ≠ 0)
    (orders : List (FaultCode × Option (Fin 10))) :
    ∀ {v : Vector FaultRecord 4}, v[n].code ≠ .empty →
      (orders.foldl (s.recorded t) v)[n] = v[n] := by
  induction orders with
  | nil => exact fun _ => rfl
  | cons o rest ih =>
    intro v filled
    have kept : (s.recorded t v o)[n] = v[n] := foldl_storeFault_keeps _ first _ filled
    exact (ih (v := s.recorded t v o) (by rw [kept]; exact filled)).trans kept

/-- The earliest free first-fault place takes the record (R158). -/
theorem storeFault_fills {v : Vector FaultRecord 4} {n : Fin 4} (first : n ≠ 0) (empty : v[n].code = .empty)
    (earlier : ∀ m : Fin 4, m ≠ 0 → m < n → v[m].code ≠ .empty) (r : FaultRecord) :
    (storeFault v r)[n] = r := by
  rw [storeFault_getElem, if_pos (.inr ((firstEmpty_eq_some v first).2 ⟨empty, earlier⟩))]

/-! ### A part that begins an event with flags set -/

theorem State.Amid.raised_self (s : State) (own : Half) : s.Amid (s.raised own) own :=
  .start ⟨_, _, _, _, _, _, _, _, _, _, _, _, _, rfl⟩ (fun _ _ => rfl) s.gone_self ⟨rfl, rfl, rfl⟩ (by
    have posted : s.posted (s.raised own) own = own := s.posted_self own
    rw [posted]
    exact ⟨rfl, rfl⟩)

/-- An order for some live slots names them, and no other. -/
theorem State.names_order {s u : State} {p : Fin 12 → Bool} (slots : u.slots = s.slots)
    (tables : u.classes = s.classes ∧ u.lines = s.lines ∧ u.mode = s.mode ∧ u.verdict = s.verdict ∧
      u.window = s.window ∧ u.failedCount = s.failedCount)
    (live : ∀ i, p i = true → s.slots[i].live = true) (r : FaultCode) (k : Option (Fin 10)) :
    s.Names (u.rejectAll (indicesOf p) r k) (fun i => p i = true) fun _ => r := by
  obtain ⟨classes, lines, mode, verdict, window, count⟩ := tables
  refine ⟨live, fun j => ?_, ?_⟩
  · rw [State.rejectAll_slots r k (indicesOf_nodup p) fun i mem => by
      rw [slots]
      exact live i ((mem_indicesOf p i).1 mem), slots]
    simp only [mem_indicesOf]
    exact ⟨fun named => if_pos named, fun other => if_neg other⟩
  · rw [State.rejectAll_classes, State.rejectAll_lines, State.rejectAll_mode, State.rejectAll_verdict,
      State.rejectAll_window, State.rejectAll_failedCount]
    exact ⟨classes, lines, mode, verdict, window, count⟩

/-! ### The rejection order of a revocation (R81) -/

/-- A slot bound to a key: CHECKING or SIGNED, with a manifest that names it (Table 1-7). -/
def State.BoundTo (s : State) (k : Fin 10) (i : Fin 12) : Prop :=
  (s.slots[i].state = .checking ∨ s.slots[i].state = .signed) ∧
    ∃ p, s.slots[i].parsed = some p ∧ p.key = k

theorem State.boundTo_iff (s : State) (k : Fin 10) (i : Fin 12) :
    ((s.slots[i].state == .checking || s.slots[i].state == .signed) &&
      s.slots[i].keyIndex == some k) = true ↔ s.BoundTo k i := by
  simp only [Bool.and_eq_true, Bool.or_eq_true, beq_iff_eq, Slot.keyIndex, Option.map_eq_some_iff,
    State.BoundTo]

theorem State.BoundTo.live {s : State} {k : Fin 10} {i : Fin 12} (h : s.BoundTo k i) :
    s.slots[i].live = true := (Slot.live_iff _).2 (.inr h.1)

/-- What the order leaves, with flags that the event had set before. -/
theorem State.rejectBound_orders (s : State) (k : Fin 10) (own : Half) :
    s.Amid ((s.raised own).rejectBound k) own ∧
      ((s.raised own).rejectBound k).faults = [(.keyRevoked, some k), (.settledOut, none)].foldl
        (s.recorded ((s.raised own).rejectBound k)) s.faults ∧
      ∀ (t : State) (own' : Half), ((s.raised own).rejectBound k).SameTables t → s.Posts t own' →
        s.RejectsAll t (s.BoundTo k) .keyRevoked := by
  obtain ⟨u, hu⟩ : ∃ u, u = (s.raised own).rejectAll ((s.raised own).boundSlots k) .keyRevoked (some k) :=
    ⟨_, rfl⟩
  have live (i : Fin 12) (bound : ((s.slots[i].state == .checking || s.slots[i].state == .signed) &&
      s.slots[i].keyIndex == some k) = true) : s.slots[i].live = true := ((s.boundTo_iff k i).1 bound).live
  have names : s.Names u (s.BoundTo k) fun _ => .keyRevoked := by
    have ordered := State.names_order (s := s) (u := s.raised own) rfl ⟨rfl, rfl, rfl, rfl, rfl, rfl⟩ live
      .keyRevoked (some k)
    simp only [s.boundTo_iff] at ordered
    exact hu ▸ ordered
  have first : s.Orders (s.raised own) u own .keyRevoked (some k) := hu ▸
    (State.Amid.raised_self s own).order live (some k)
      fun i gone => absurd (s.gone_self i) (by rw [show s.gone s i = true from gone]; exact nofun)
  have second := names.concludes first.amid (s.raised own) fun _ _ => nofun
  have ends : (s.raised own).rejectBound k = (s.raised own).conclude u := by rw [hu]; rfl
  rw [ends]
  refine ⟨second.amid, first.foldl_two second nofun rfl, fun t own' tables posts => ?_⟩
  exact names.rejectsFor (fun d _ => names.departs d)
    ⟨fun w => absurd w (Bool.eq_false_iff.1 names.wins), False.elim⟩ False.elim tables posts

/-- The order with no flag set before it, and FUSE_DONE after. -/
theorem State.rejectBound_fuseDone (s : State) (k : Fin 10) :
    s.Amid ((s.rejectBound k).post .fuseDone) 0x040 ∧
      ((s.rejectBound k).post .fuseDone).faults = [(.keyRevoked, some k), (.settledOut, none)].foldl
        (s.recorded ((s.rejectBound k).post .fuseDone)) s.faults ∧
      ∀ (t : State) (own' : Half), ((s.rejectBound k).post .fuseDone).SameTables t → s.Posts t own' →
        s.RejectsAll t (s.BoundTo k) .keyRevoked := by
  obtain ⟨amid, faults, rejects⟩ := s.rejectBound_orders k 0
  rw [State.raised_zero] at amid faults rejects
  refine ⟨?_, faults, fun t own' tables posts => rejects t own'
    ⟨tables.slots, tables.classes, tables.lines, tables.mode, tables.verdict, tables.window,
      tables.failedCount⟩ posts⟩
  exact amid.raises (own' := (0 : Half) ||| 0x040) (.refl _) rfl ⟨rfl, rfl, rfl⟩ ⟨rfl, rfl⟩
    (State.posted_own rfl _ rfl rfl rfl)

theorem State.failOperation_revoke (s : State) {op : FuseOp} {k : Fin 10} {before : BitVec 10}
    (kind : op.kind = .revoke k before) : s.failOperation op =
      if s.revokeBurnt k then
        (s.burnFault { faultOf .fuseFault [flagByte (s.revokeBurnt k)] with
          link := some op.link, key := some k }).endReservation.rejectBound k
      else (s.burnFault { faultOf .fuseFault [flagByte (s.revokeBurnt k)] with
          link := some op.link, key := some k }).endReservation := by
  simp only [State.failOperation, State.recordFault_fuseDone, State.fuseFaultRecord, kind]
  rfl

theorem State.endOperation_revoke (s : State) {op : FuseOp} {k : Fin 10} {before : BitVec 10}
    (kind : op.kind = .revoke k before) : s.endOperation op =
      ((({ s with fuseOp := none } : State).endReservation).rejectBound k).post .fuseDone := by
  simp only [State.endOperation, kind]

end Sys2Proof.Machine

namespace Sys2Proof
open Machine

/-- Settles O38: the order's slots, and the flags that the burn sets before it or after. -/
theorem revocationTakesEffect : Obligations.RevocationTakesEffect := by
  intro s target before after l took strays running reads good fault
  set op : FuseOp := { kind := .revoke target before, burnList := [target.val], position := 0, link := l }
    with hop
  have outcome : exec (.fuseBurnComplete took strays) s = .next (s.finishBurn took strays).commit := rfl
  set fuses : Fuses := { s.fuses with revoke := after } with hfuses
  have array : arrayAfterBurn s.fuses op took strays = fuses := arrayAfterBurn_revoke rfl reads
  have comparison : readBackGood fuses op = true ↔ good := beq_iff_eq
  have failed : ¬good → s.finishBurn took strays = ({ s with fuses := fuses } : State).failOperation op :=
    fun bad => State.finishBurn_fails running array (Bool.eq_false_iff.2 fun g => bad (comparison.1 g))
  have failed (bad : ¬good) := (State.finishBurn_fails running array
    (Bool.eq_false_iff.2 fun g => bad (comparison.1 g))).trans
      (State.failOperation_revoke { s with fuses := fuses } (op := op) rfl)
  have reading : ({ s with fuses := fuses } : State).revokeBurnt target = after.getLsbD target := rfl
  rw [reading] at failed
  refine ⟨fun burnt => ?_, fun unburnt _ => ?_⟩
  · set faults := if after = before ||| BitVec.twoPow 10 target then s.faults
      else storeFault s.faults (fault 1) with hfaults
    obtain ⟨b, hb⟩ : ∃ b : State, b = { s with
      fuses := fuses, fuseOp := none, reserved := false, revoking := none, faults := faults } := ⟨_, rfl⟩
    have event : ∃ v, s.finishBurn took strays = v ∧ b.Amid v (if good then 0x040 else 0x0C0) ∧
        v.faults = [(.keyRevoked, some target), (.settledOut, none)].foldl (b.recorded v) b.faults ∧
        ∀ (t : State) (own' : Half), v.SameTables t → b.Posts t own' →
          b.RejectsAll t (b.BoundTo target) .keyRevoked := by
      refine ⟨_, rfl, ?_⟩
      by_cases g : good
      · have same : faults = s.faults := if_pos g
        rw [State.finishBurn_ends running array (comparison.2 g) rfl,
          State.endOperation_revoke _ (op := op) rfl, if_pos g, hb, same]
        exact State.rejectBound_fuseDone _ target
      · have stored : faults = storeFault s.faults (fault 1) := if_neg g
        rw [failed g, burnt, if_pos rfl, if_neg g, hb, stored]
        exact State.rejectBound_orders _ target 0x0C0
    obtain ⟨v, ends, amid, stored, rejects⟩ := event
    have same : s.SameTables b := by
      rw [hb]
      exact ⟨rfl, rfl, rfl, rfl, rfl, rfl, rfl⟩
    have flags (n : Nat) (set : (if good then 0x040 else 0x0C0 : Half).getLsbD n = true) (k : Link) :
        (v.commit.link k).flags.getLsbD n = true := amid.posts_commit n (State.posted_own_bit set) k
    refine ⟨v.commit, by rw [outcome, ends], ?_, ?_, ?_, ?_, ?_, flags 6 ?_, fun bad =>
      ⟨flags 7 ?_, fun n first empty earlier => ?_⟩⟩
    · rw [State.keyState_revoked]
      change v.fuses.revoke.getLsbD target = true
      rw [amid.units.fuses, hb]
      exact burnt
    · have all := (rejects v.commit _ v.sameTables_commit amid.posts_commit).of_same same
      rw [hb] at all
      exact all
    · have follows := amid.ordersFollow stored
      rw [hb] at follows
      exact follows
    · refine amid.chunks.trans ?_
      rw [hb]
      rfl
    · refine amid.units.core.trans ?_
      rw [hb]
    · split <;> rfl
    · rw [if_neg bad]
      rfl
    · have here : b.faults[n] = fault 1 := by
        have filled : b.faults = storeFault s.faults (fault 1) := by
          rw [hb]
          exact if_neg bad
        rw [filled]
        exact storeFault_fills first empty earlier _
      have kept := State.recorded_keeps b v first [(.keyRevoked, some target), (.settledOut, none)]
        (v := b.faults) (by rw [here]; exact nofun)
      rw [← stored] at kept
      exact kept.trans here
  · have bad : ¬good := fun g => by
      have bit := congrArg (fun v => v.getLsbD target) g
      simp only [unburnt, BitVec.getLsbD_or, twoPow_getLsbD _ _ target.isLt] at bit
      simp at bit
    rw [outcome, failed bad, unburnt, if_neg nofun]
    rfl

end Sys2Proof
end

section
/-! SUPPORT. The expiry of the boot window as an event: its fault, its order, and the part settled (R134, R135). -/

namespace Sys2Proof.Machine

/-- The fault record of an expiry (Table 10-1). -/
def State.expiryFault (s : State) : FaultRecord :=
  { faultOf .windowExpired [byteOf s.window.extUsed, byteOf s.window.reload, byteOf s.window.prescale] with
    stamp := s.bootClock }

/-- What the expiry's order leaves, the window's fault stored before it (R134, steps 1 to 3). -/
theorem State.expiring_orders (s : State) :
    let b : State := { s with faults := storeFault s.faults s.expiryFault }
    b.Amid s.expiring 0x0A0 ∧ s.expiring.faults = b.recorded s.expiring b.faults (.windowExpired, none) := by
  intro b
  have stopped : b.Amid (({ b with window := s.window.stop } : State).raised 0x0A0) 0x0A0 :=
    .start ⟨_, _, _, _, _, _, _, _, _, _, _, _, _, rfl⟩ (fun _ _ => rfl) b.gone_self ⟨rfl, rfl, rfl⟩ (by
      have posted : b.posted (({ b with window := s.window.stop } : State).raised 0x0A0) 0x0A0 = 0x0A0 :=
        b.posted_self 0x0A0
      rw [posted]
      exact ⟨rfl, rfl⟩)
  obtain ⟨u, hu⟩ : ∃ u, u = (({ b with window := s.window.stop } : State).raised 0x0A0).rejectAll
    (({ b with window := s.window.stop } : State).raised 0x0A0).liveSlots .windowExpired none := ⟨_, rfl⟩
  have ordered : b.Orders _ u 0x0A0 .windowExpired none := hu ▸
    stopped.order (p := fun i => s.slots[i].live) (fun _ live => live) none
      fun i gone => absurd (b.gone_self i) (by rw [show b.gone b i = true from gone]; exact nofun)
  have flags : (0x080 ||| 0x020 : Half) = 0x0A0 := rfl
  have expiring : s.expiring = u.moveClasses (failedClasses u.classes) := by
    rw [hu, ← flags, ← State.raised_raised]
    rfl
  have classes : u.classes = b.classes := by
    rw [hu, State.rejectAll_classes]
    rfl
  rw [expiring]
  by_cases same : failedClasses u.classes = u.classes
  · rw [State.moveClasses, if_pos same]
    exact ⟨ordered.amid, ordered.faults⟩
  · have moved : u.moveClasses (failedClasses u.classes) =
        ({ u with classes := failedClasses u.classes } : State).raised 0x002 := if_neg same
    rw [moved]
    exact ⟨ordered.amid.moveClasses _ (.inl (by rw [← classes]; exact same)), ordered.faults⟩

theorem State.expiring_lines (s : State) : s.expiring.lines = s.lines := by
  simp only [State.expiring, State.moveClasses_same, State.rejectAll_lines]
  rfl

theorem State.moveClasses_failedCount (s : State) (v : Vector ClassRec 8) :
    (s.moveClasses v).failedCount = s.failedCount := by
  unfold State.moveClasses
  split <;> rfl

theorem State.expiring_window (s : State) :
    s.expiring.window = s.window.stop ∧ s.expiring.failedCount = s.failedCount := by
  refine ⟨?_, ?_⟩
  · simp only [State.expiring, State.moveClasses_same, State.rejectAll_window]
    rfl
  · simp only [State.expiring, State.moveClasses_failedCount, State.rejectAll_failedCount]
    rfl

theorem State.expiring_dead (s : State) (i : Fin 12) : s.expiring.slots[i].live = false := by
  rw [s.expiring_slots]
  split
  · rfl
  next dead => exact Bool.eq_false_iff.2 dead

/-- With a line HELD, which is locked, the verdict is never PRINT_READY (R120, R134). -/
theorem verdictOf_lockedLines {lines : Vector LineRec 6} (held : ∃ i : Fin 6, lines[i].state = .held) :
    verdictOf (lockedLines lines) = if lines[0].state = .released then .degraded else .blocked := by
  obtain ⟨i, held⟩ := held
  have locked : anyLine (lockedLines lines) .locked = true :=
    (anyLine_iff _ _).2 ⟨i, by rw [lockedLines, tabulate_fin, if_pos held]⟩
  have released : (lockedLines lines)[0].state = .released ↔ lines[0].state = .released := by
    have first : (lockedLines lines)[(0 : Fin 6)] = _ := tabulate_fin _ 0
    change (lockedLines lines)[(0 : Fin 6)].state = .released ↔ _
    rw [first]
    split
    next h => exact ⟨nofun, fun r => by cases h.symm.trans r⟩
    · rfl
  rw [verdictOf, locked, if_pos rfl]
  simp only [released]

end Sys2Proof.Machine

namespace Sys2Proof
open Machine

/-- Settles O44: the order over every live slot, and an entry to SETTLED that finds none live. -/
theorem expirySettles : Obligations.ExpirySettles := by
  intro s mode running count due held expired
  have tickDue : s.window.tickDue = true := by
    rw [Window.tickDue, running, due]
    rfl
  have expiry : exec .bootWindowExpiry s = .next s.expire.commit :=
    congrArg (fun t => Host.Outcome.next (State.commit t)) (if_pos ⟨tickDue, count⟩)
  have tick : exec .bootWindowTick s = .next s.expire.commit :=
    congrArg (fun t => Host.Outcome.next (State.commit t)) ((if_pos tickDue).trans (if_pos count))
  obtain ⟨amid, faults⟩ := s.expiring_orders
  have record : s.expiryFault = expired := rfl
  rw [record] at amid faults
  obtain ⟨b, hb⟩ : ∃ b : State, b = { s with faults := storeFault s.faults expired } := ⟨_, rfl⟩
  rw [← hb] at amid faults
  obtain ⟨u, hu⟩ : ∃ u, u = s.expiring.moveLines (lockedLines s.expiring.lines) := ⟨_, rfl⟩
  have lines : u.lines = lockedLines s.lines := by rw [hu, State.moveLines_lines, s.expiring_lines]
  have slots : u.slots = s.expiring.slots := by rw [hu, State.moveLines_slots]
  have undecided (i : Fin 6) : u.lines[i].state ≠ .held := by
    rw [lines]
    exact (anyLine_eq_false _ _).1 (anyLine_lockedLines _) i
  have umode : u.mode = .verify := by rw [hu, State.moveLines_mode, s.expiring_mode, mode]
  obtain ⟨window, failed⟩ := s.expiring_window
  have verdict : verdictOf u.lines = if s.lines[0].state = .released then .degraded else .blocked := by
    rw [lines]
    exact verdictOf_lockedLines held
  have settledCount : u.settledCount = s.failedCount := by
    have unready : verdictOf u.lines ≠ .printReady := by
      rw [verdict]
      split <;> exact nofun
    rw [State.settledCount, if_neg unready, hu, State.moveLines_failedCount, failed]
  have settles := (s.expire_eq.trans (congrArg State.settleIfDecided hu.symm)).trans
    (State.settleIfDecided_empty umode undecided fun i => by rw [slots]; exact s.expiring_dead i)
  rw [settledCount, verdict] at settles
  obtain ⟨v, hv⟩ : ∃ v, v = s.expire := ⟨_, rfl⟩
  rw [← hv] at settles expiry tick
  have same : v.slots = s.expiring.slots := by rw [settles, ← slots]; rfl
  have moved : b.Amid u 0x0A0 :=
    hu ▸ amid.moveLines (by rw [s.expiring_lines, hb]) (lockedLines s.expiring.lines)
  have bmode : b.mode = .verify := by rw [hb]; exact mode
  have settled : b.Amid v 0x0A0 := by
    rw [settles]
    refine moved.raises
      (t := { u with
        mode := .settled, verdict := if s.lines[0].state = .released then .degraded else .blocked
        window := u.window.stop, failedCount := s.failedCount })
      ⟨_, _, _, _, _, _, _, _, _, _, _, _, _, rfl⟩ rfl ⟨rfl, rfl, rfl⟩ ⟨rfl, rfl⟩ ?_
    exact State.posted_mode rfl rfl rfl (umode.trans bmode.symm) (by rw [bmode]; exact nofun)
  have stored : v.faults = [(.windowExpired, none)].foldl (b.recorded v) b.faults := by
    have recorded : b.recorded v b.faults (.windowExpired, none) =
        b.recorded s.expiring b.faults (.windowExpired, none) :=
      State.recorded_congr _ _ fun i => by rw [State.gone, State.gone, same]
    have kept : v.faults = u.faults := by rw [settles]; rfl
    rw [kept, hu, State.moveLines_faults, faults]
    exact recorded.symm
  have vlines : v.lines = lockedLines s.lines := by rw [settles, ← lines]; rfl
  have vclasses : v.classes = failedClasses s.classes := by
    have kept : v.classes = u.classes := by rw [settles]; rfl
    rw [kept, hu, State.moveLines_classes, s.expiring_classes]
  have flags (n : Nat) (bit : (b.posted v 0x0A0).getLsbD n = true) (k : Link) :
      (v.commit.link k).flags.getLsbD n = true := settled.posts_commit n bit k
  refine ⟨v.commit, expiry, tick, ?_, fun i => ?_, fun c => ?_, fun i => ?_, ?_, ?_, ?_,
    fun n first empty earlier => ?_, ?_, ?_, ?_, fun k => ⟨flags 5 (State.posted_own_bit rfl) k,
      flags 3 (State.posted_mode_bit ?_) k, flags 7 (State.posted_own_bit rfl) k,
      flags 2 (State.posted_line_bit fun same => ?_) k, fun pending => flags 1
        (State.posted_class_bit fun same => ?_) k⟩⟩
  · change v.window = _
    rw [settles]
    change u.window.stop = _
    rw [hu, State.moveLines_window, window]
    rfl
  · change v.slots[i] = _
    rw [same, s.expiring_slots]
    rfl
  · change v.classes[c] = _
    rw [vclasses, failedClasses, tabulate_fin]
  · change v.lines[i] = _
    rw [vlines, lockedLines, tabulate_fin]
  · change v.mode = _
    rw [settles]
    rfl
  · change v.verdict = _
    rw [settles]
    rfl
  · change v.failedCount = _
    rw [settles]
    rfl
  · have here : b.faults[n] = expired := by
      rw [hb]
      exact storeFault_fills first empty earlier _
    have kept := State.recorded_keeps b v first [(.windowExpired, none)] (v := b.faults)
      (by rw [here]; exact nofun)
    rw [← stored] at kept
    exact kept.trans here
  · rw [← hb]
    exact settled.ordersFollow stored
  · refine settled.chunks.trans ?_
    rw [hb]
    rfl
  · refine settled.units.core.trans ?_
    rw [hb]
  · rw [bmode, settles]
    exact nofun
  · obtain ⟨i, held⟩ := held
    have now := undecided i
    rw [lines, ← vlines, same, hb] at now
    exact now held
  · obtain ⟨c, pending⟩ := pending
    have now := congrArg (fun w => w[c].state) (vclasses.symm.trans same)
    simp only [failedClasses, tabulate_fin] at now
    rw [if_pos pending, hb] at now
    cases now.trans pending

end Sys2Proof
end

section
/-! SUPPORT. A class declined, and a slot dropped (R23, R111, R113, R114). -/

namespace Sys2Proof.Machine

/-- A slot after an event that rejected the live slots of a class and then settled the part or not (R17, R121). -/
theorem State.slotFollows {s u t : State} {c : Fin 8} {r : FaultCode} {j : Fin 12} (mode : u.mode = s.mode)
    (rejected : u.slots[j] =
      if s.slots[j].live = true ∧ s.slots[j].cls = some c then s.slots[j].rejectedFor r else s.slots[j])
    (settled : t.slots[j] = if u.slots[j].live = true ∧ u.mode = .verify ∧ t.mode = .settled then
      u.slots[j].rejectedFor .settledOut else u.slots[j]) : s.SlotFollows t c r j := by
  rw [mode] at settled
  by_cases live : s.slots[j].live = true
  · have alive : ¬s.slots[j].live = false := by rw [live]; exact nofun
    by_cases cls : s.slots[j].cls = some c
    · rw [rejected.trans (if_pos ⟨live, cls⟩)] at settled
      rw [State.SlotFollows, if_neg alive, if_pos cls]
      exact settled.trans (if_neg fun h => nomatch h.1)
    · rw [rejected.trans (if_neg fun h => cls h.2)] at settled
      rw [State.SlotFollows, if_neg alive, if_neg cls, settled]
      simp only [live, true_and]
  · rw [rejected.trans (if_neg fun h => live h.1)] at settled
    rw [State.SlotFollows, if_pos (Bool.eq_false_iff.2 live)]
    exact settled.trans (if_neg fun h => live h.1)

/-- What declining a class leaves, before its reply (R114). -/
theorem State.decline_orders (s : State) {c : Fin 8} (pending : s.classes[c].state = .pending) :
    s.Amid (s.decline c) 0 ∧
      (s.decline c).faults =
        [(.declined, none), (.settledOut, none)].foldl (s.recorded (s.decline c)) s.faults ∧
      (s.decline c).classes = put s.classes c { s.classes[c] with state := .declined } ∧
      ∀ (t : State) (own : Half), (s.decline c).SameTables t → s.Posts t own →
        s.LinesFollow t ∧ ∀ j, s.SlotFollows t c .declined j := by
  obtain ⟨v, hv⟩ : ∃ v, v = put s.classes c { s.classes[c] with state := .declined } := ⟨_, rfl⟩
  have changed : v ≠ s.classes := fun same => by
    have now := congrArg (fun w => w[c].state) same
    simp only [hv, put_fin_self, pending] at now
    cases now
  have posted := (State.Amid.refl s).moveClasses v (.inl changed)
  obtain ⟨p, hp⟩ : ∃ p : Fin 12 → Bool, p = fun i => s.slots[i].live && s.slots[i].cls == some c := ⟨_, rfl⟩
  have live (i : Fin 12) (pi : p i = true) : s.slots[i].live = true := by
    rw [hp] at pi
    exact (Bool.and_eq_true_iff.1 pi).1
  obtain ⟨u, hu⟩ : ∃ u, u = (({ s with classes := v } : State).raised 0x002).rejectAll (indicesOf p)
    .declined none := ⟨_, rfl⟩
  have first : s.Orders _ u 0 .declined none := hu ▸ posted.order live none
    fun i gone => absurd (s.gone_self i) (by rw [show s.gone s i = true from gone]; exact nofun)
  have slot (j : Fin 12) : u.slots[j] = if s.slots[j].live = true ∧ s.slots[j].cls = some c then
      s.slots[j].rejectedFor .declined else s.slots[j] := by
    have order := State.rejectAll_slots (s := ({ s with classes := v } : State).raised 0x002) .declined none
      (indicesOf_nodup p) (fun i mem => live i ((mem_indicesOf p i).1 mem)) j
    rw [hu, order]
    simp only [mem_indicesOf, hp, Bool.and_eq_true, beq_iff_eq]
    rfl
  have fresh (i : Fin 12) (gone : s.gone u i = true) : u.slots[i].reason ≠ some .settledOut := by
    obtain ⟨alive, rejected⟩ := (s.gone_iff u i).1 gone
    rw [slot] at rejected ⊢
    split at rejected
    next named =>
      rw [if_pos named]
      exact nofun
    · rw [Slot.live, rejected] at alive
      cases alive
  have kept : u.classes = v ∧ u.lines = s.lines ∧ u.mode = s.mode ∧ u.verdict = s.verdict ∧
      u.window = s.window ∧ u.failedCount = s.failedCount := by
    rw [hu, State.rejectAll_classes, State.rejectAll_lines, State.rejectAll_mode,
      State.rejectAll_verdict, State.rejectAll_window, State.rejectAll_failedCount]
    exact ⟨rfl, rfl, rfl, rfl, rfl, rfl⟩
  obtain ⟨classes, lines, mode, verdict, window, count⟩ := kept
  have ends : s.decline c = u.gate := by
    rw [hu, State.rejectAll_raised, hv, hp]
    rfl
  have second := first.amid.gate mode fresh lines
  rw [ends]
  refine ⟨second.amid, first.foldl_two second nofun rfl, by rw [State.gate_classes, classes, hv],
    fun t own tables posts => ⟨State.linesFollow_gate ⟨lines, mode, verdict, window, count⟩ tables posts,
      fun j => State.slotFollows mode (slot j) ?_⟩⟩
  rw [tables.slots, tables.mode]
  exact u.gate_slots j

section
variable {s : State} (mode : s.mode = .verify) (l : Link) {f : Frame}
include mode

theorem takeClassDecline_badIndex (above : 7 < (byteAt f.payload 0).toNat) :
    takeClassDecline l f s = serve s .badIndex [] := by
  have absent : index? 8 (byteAt f.payload 0).toNat = none := index?_eq_none above
  simp only [takeClassDecline, mode, absent]
  rfl

theorem takeClassDecline_class {c : Fin 8} (payload : f.payload = [byteOf c]) :
    takeClassDecline l f s = (declineRefusal s.classes[c]).elim (serve (s.decline c) .ok [])
      fun status => serve s status [] := by
  have named : index? 8 (byteAt f.payload 0).toNat = some c := by
    rw [payload, byteAt_zero_cons, index?_byteOf c (by decide)]
  simp only [takeClassDecline, mode, named]
  cases declineRefusal s.classes[c] <;> rfl

end

end Sys2Proof.Machine

namespace Sys2Proof
open Machine

/-- Settles O21: the refusals of the class table, and the order of a class declined with the gate's answer. -/
theorem classDeclineDeclines : Obligations.ClassDeclineDeclines := by
  intro s l tag rest ready mode refused
  have taken : (s.taking l).mode = .verify := by simpa using mode
  have classes (c : Fin 8) : (s.taking l).classes[c] = s.classes[c] := by rw [State.taking_classes]
  refine ⟨fun b above => ?_, fun c status why => ?_, fun c optional pending => ?_⟩
  · exact exec_replied (k := .classDecline) rest ready (Nat.le_add_left 1 _) rfl fun f payload =>
      takeClassDecline_badIndex taken l (by rw [payload]; exact above)
  · have refusal : declineRefusal s.classes[c] = some status := by
      rcases why with ⟨other, rfl⟩ | ⟨optional, state, rfl⟩ | ⟨optional, state | state, rfl⟩
      · exact if_pos other
      all_goals
        rw [declineRefusal, if_neg (not_not_intro optional), state]
    exact exec_replied (k := .classDecline) rest ready (Nat.le_add_left 1 _) rfl fun f payload => by
      refine (takeClassDecline_class taken l payload).trans ?_
      rw [classes, refusal]
      rfl
  · have accepted : declineRefusal s.classes[c] = none := by
      rw [declineRefusal, if_neg (not_not_intro optional), pending]
    obtain ⟨amid, faults, declined, follows⟩ :=
      (s.taking l).decline_orders (c := c) (by rw [classes]; exact pending)
    obtain ⟨u, hu⟩ : ∃ u, u = (s.taking l).decline c := ⟨_, rfl⟩
    rw [← hu] at amid faults declined follows
    have answers : exec (.classDecline l (goodRequest .classDecline tag [byteOf c])) s =
        .next (u.putReply l (replyOf .classDecline tag .ok [])).commit :=
      exec_answers (k := .classDecline) (payload := [byteOf c]) ready (Nat.le_add_left 1 _) rfl
        fun f payload => by
          refine (takeClassDecline_class taken l payload).trans ?_
          rw [classes, accepted, hu]
          rfl
    have answered := amid.putReply l (replyOf .classDecline tag .ok [])
    have posts : (s.taking l).Posts _ 0 := State.posts_putReply answered.posts_commit
    obtain ⟨lines, slots⟩ := follows _ 0
      ((State.sameTables_putReply _ l _).trans (State.sameTables_commit _)) posts
    have same := s.sameTables_taking l
    have left : ((s.taking l).putReply l (replyOf .classDecline tag .ok [])).recorded
        (u.putReply l (replyOf .classDecline tag .ok [])) = (s.taking l).recorded u := by
      cases l <;> rfl
    refine ⟨_, answers, ?_, fun i => (slots i).of_same same, lines.of_same ⟨same.lines, same.mode, same.verdict, same.window, same.failedCount⟩,
      State.putReply_ordinary _ l _, posts 1 (State.posted_class_bit ?_), ?_, ?_, ?_⟩
    · refine (State.putReply_classes ..).trans (declined.trans ?_)
      rw [State.taking_classes]
    · intro unchanged
      have kept : (u.putReply l (replyOf .classDecline tag .ok [])).commit.classes = u.classes :=
        State.putReply_classes ..
      have now := congrArg (fun w => w[c].state) (declined.symm.trans (kept.symm.trans unchanged))
      simp only [put_fin_self, classes, pending] at now
      cases now
    · rw [← State.taking_putReply]
      refine answered.ordersFollow ?_
      rw [left, State.putReply_faults, State.putReply_faults]
      exact faults
    · refine answered.chunks.trans ?_
      cases l <;> rfl
    · refine (answered.units.core.trans (State.putReply_core ..)).trans ?_
      cases l <;> rfl

end Sys2Proof
end

section
/-! SUPPORT. SLOT_DROP (R2, R5, R18, R23). -/

namespace Sys2Proof.Machine

/-- A live slot dropped, its work released, before the class table is told (R18, R23). -/
def State.dropped (s : State) (i : Fin 12) : State :=
  { s with
    slots := put s.slots i (Slot.freed s.slots[i].gen)
    ctxs := tabulate fun x => s.ctxs[x].filter fun c => c.slot != i
    chunkQueue := s.chunkQueue.filter fun ch => !(ch.slot == i && ch.gen == s.slots[i].gen)
    jobs := s.jobs.filter fun j => j != .manifest i s.slots[i].gen }

section
variable {s : State} {i : Fin 12}

theorem State.drop_free (free : s.slots[i].state = .free) : s.drop i = s := if_pos free

theorem State.drop_rejected (state : s.slots[i].state = .rejected) :
    s.drop i = { s with slots := put s.slots i (Slot.freed s.slots[i].gen) } := by
  have dead : ¬s.slots[i].live = true := by
    rw [Slot.live, state]
    exact nofun
  refine (if_neg ?_).trans (if_neg dead)
  rw [state]
  exact nofun

theorem State.drop_live (live : s.slots[i].live = true) : s.drop i = s.conclude (s.dropped i) := by
  have claimed : s.slots[i].state ≠ .free := fun free => by
    rw [Slot.live, free] at live
    cases live
  have released : (s.release i).setSlot i (Slot.freed s.slots[i].gen) = s.dropped i := by
    simp only [State.release, State.setSlot, State.dropped, put_put]
  refine ((if_neg claimed).trans (if_pos live)).trans ?_
  rw [released]

theorem State.dropped_slots (s : State) (i j : Fin 12) : (s.dropped i).slots[j] =
    if j = i then Slot.freed s.slots[i].gen else s.slots[j] := put_fin ..

/-- Only the class of the slot dropped can be exhausted by the drop (R111, R112). -/
theorem State.closes_dropped {c : Fin 8} (live : s.slots[i].live = true)
    (cls : s.slots[i].cls = some c) (d : Fin 8) : s.closes (s.dropped i) d = true ↔
      d = c ∧ s.classes[c].state = .pending ∧ s.classes[c].attempts = 3 ∧
        ∀ j : Fin 12, j ≠ i → s.slots[j].live = true → s.slots[j].cls ≠ some c := by
  have left : (∃ j : Fin 12, s.slots[j].live = true ∧ s.slots[j].cls = some d ∧
      (s.dropped i).slots[j].live = false) ↔ d = c := by
    constructor
    · rintro ⟨j, alive, own, dead⟩
      rw [s.dropped_slots] at dead
      split at dead
      next ji =>
        subst ji
        exact Option.some.inj (own.symm.trans cls)
      · rw [alive] at dead
        cases dead
    · rintro rfl
      refine ⟨i, live, cls, ?_⟩
      rw [s.dropped_slots, if_pos rfl]
      rfl
  rw [State.closes_iff, left]
  refine and_congr_right fun same => ?_
  subst same
  refine and_congr_right fun _ => and_congr_right fun _ => forall_congr' fun j => ?_
  rw [s.dropped_slots]
  by_cases ji : j = i
  · rw [if_pos ji]
    exact iff_of_true (fun h => nomatch h) fun h => absurd ji h
  · rw [if_neg ji]
    exact ⟨fun h _ => h, fun h => h ji⟩

theorem State.wins_dropped (s : State) (i : Fin 12) : s.wins (s.dropped i) = false := by
  rw [State.wins, List.any_eq_false]
  intro j _ won
  rw [Bool.and_eq_true, Bool.and_eq_true, beq_iff_eq] at won
  obtain ⟨⟨live, -⟩, verified⟩ := won
  rw [s.dropped_slots] at verified
  split at verified
  · cases verified
  · rw [Slot.live, verified] at live
    cases live

end

section
variable {s : State} (mode : s.mode = .verify ∨ s.mode = .settled) (l : Link) {f : Frame}
include mode

theorem takeSlotDrop_badIndex (above : 11 < (byteAt f.payload 0).toNat) :
    takeSlotDrop l f s = serve s .badIndex [] := by
  have absent : index? 12 (byteAt f.payload 0).toNat = none := index?_eq_none above
  simp only [takeSlotDrop, (s.slotMode_iff).2 mode, absent]
  rfl

theorem takeSlotDrop_slot {i : Fin 12} (payload : f.payload = [byteOf i]) : takeSlotDrop l f s =
    if s.slots[i].ownedBy l = false then serve s .notOwner []
    else if s.slots[i].state = .verified then serve s .slotHeld []
    else serve (s.drop i) .ok [] := by
  have named : index? 12 (byteAt f.payload 0).toNat = some i := by
    rw [payload, byteAt_zero_cons, index?_byteOf i (by decide)]
  simp only [takeSlotDrop, (s.slotMode_iff).2 mode, named, Bool.not_eq_true', Bool.not_true,
    Bool.false_eq_true, if_false]
  rfl

end

end Sys2Proof.Machine

namespace Sys2Proof
open Machine

/-- Settles O17: the refusals, and the drop of a live slot with the end of its event. -/
theorem slotDropFrees : Obligations.SlotDropFrees := by
  intro s l tag rest ready mode
  have taken : (s.taking l).mode = .verify ∨ (s.taking l).mode = .settled := by simpa using mode
  refine ⟨fun b above => ?_, fun i => ?_⟩
  · exact exec_replied (k := .slotDrop) rest ready (Nat.le_add_left 1 _) rfl fun f payload =>
      takeSlotDrop_badIndex taken l (by rw [payload]; exact above)
  intro q done live dropped
  have answers (f : Frame) (payload : f.payload = [byteOf i]) := takeSlotDrop_slot taken l payload
  simp only [State.taking_slots] at answers
  have owned (h : s.slots[i].owner = some l ∨ s.slots[i].state = .free) :
      ¬s.slots[i].ownedBy l = false := fun e => by
    obtain ⟨claimed, foreign⟩ := (Slot.ownedBy_eq_false _ l).1 e
    exact h.elim foreign claimed
  have drops (h : s.slots[i].owner = some l ∨ s.slots[i].state = .free) (left : s.slots[i].state ≠ .verified)
      (f : Frame) (payload : f.payload = [byteOf i]) :
      takeSlotDrop l f (s.taking l) = serve ((s.taking l).drop i) .ok [] :=
    (answers f payload).trans ((if_neg (owned h)).trans (if_neg left))
  have drops_ : s.dropped i = dropped := by
    refine congrArg (fun v => { s.dropped i with ctxs := v }) (congrArg tabulate (funext fun x => ?_))
    cases s.ctxs[x] with
    | none => rfl
    | some d => by_cases own : d.slot = i <;> simp [own]
  have alive_of (alive : live) : s.slots[i].live = true ∧ s.slots[i].state ≠ .verified :=
    ⟨(Slot.live_iff _).2 alive, fun verified => by
      have alive : s.slots[i].state = .loading ∨ s.slots[i].state = .checking ∨
        s.slots[i].state = .signed := alive
      rw [verified] at alive
      rcases alive with h | h | h <;> cases h⟩
  have slots : (s.taking l).slots = s.slots := State.taking_slots ..
  have drops_live (alive : s.slots[i].live = true) :
      (s.taking l).drop i = (s.taking l).conclude ((s.taking l).dropped i) :=
    State.drop_live (by rw [slots]; exact alive)
  have closes {c : Fin 8} (alive : s.slots[i].live = true) (cls : s.slots[i].cls = some c) (d : Fin 8) :
      (s.taking l).closes ((s.taking l).dropped i) d = true ↔
        d = c ∧ s.classes[c].state = .pending ∧ s.classes[c].attempts = 3 ∧
          ∀ j : Fin 12, j ≠ i → s.slots[j].live = true → s.slots[j].cls ≠ some c := by
    have h := State.closes_dropped (s := s.taking l) (i := i) (c := c) (by rw [slots]; exact alive)
      (by rw [slots]; exact cls) d
    rw [State.taking_classes] at h
    simp only [slots] at h
    exact h
  refine ⟨fun claimed other => ?_, fun free => ?_, fun owner verified => ?_, fun owner rejected => ?_,
    fun c owner cls alive kept => ?_, fun c owner cls alive attempts pending last => ?_⟩
  · exact exec_replied (k := .slotDrop) rest ready (Nat.le_add_left 1 _) rfl fun f payload =>
      (answers f payload).trans (if_pos ((Slot.ownedBy_eq_false _ l).2 ⟨claimed, other⟩))
  · refine exec_replied (k := .slotDrop) rest ready (Nat.le_add_left 1 _) rfl fun f payload =>
      (drops (.inr free) (by rw [free]; exact nofun) f payload).trans ?_
    rw [State.drop_free (by rw [slots]; exact free)]
  · exact exec_replied (k := .slotDrop) rest ready (Nat.le_add_left 1 _) rfl fun f payload =>
      (answers f payload).trans ((if_neg (owned (.inl owner))).trans (if_pos verified))
  · refine exec_served (k := .slotDrop) { s with slots := put s.slots i (Slot.freed s.slots[i].gen) }
      (rest.same rfl rfl rfl rfl) (by cases l <;> exact ready.entry) ready (Nat.le_add_left 1 _) rfl
      fun f payload => (drops (.inl owner) (by rw [rejected]; exact nofun) f payload).trans ?_
    rw [State.drop_rejected (by rw [slots]; exact rejected)]
    cases l <;> rfl
  · obtain ⟨alive, left⟩ := alive_of alive
    have still : (s.taking l).conclude ((s.taking l).dropped i) = (s.taking l).dropped i := by
      refine State.conclude_still (fun d => Bool.eq_false_iff.2 fun h => ?_) (State.wins_dropped _ i)
      obtain ⟨-, pending, attempts, last⟩ := (closes alive cls d).1 h
      rcases kept with few | open_ | ⟨j, ji, other, own⟩
      · exact few attempts
      · exact open_ pending
      · exact last j ji other own
    rw [← drops_]
    refine exec_served (k := .slotDrop) (s.dropped i) (rest.same rfl rfl rfl rfl)
      (by cases l <;> exact ready.entry) ready (Nat.le_add_left 1 _) rfl
      fun f payload => (drops (.inl owner) left f payload).trans ?_
    rw [drops_live alive, still]
    cases l <;> rfl
  · obtain ⟨alive, left⟩ := alive_of alive
    obtain ⟨u, hu⟩ : ∃ u, u = (s.taking l).dropped i := ⟨_, rfl⟩
    obtain ⟨v, hv⟩ : ∃ v, v = (s.taking l).conclude u := ⟨_, rfl⟩
    have answer : exec (.slotDrop l q) s = .next (v.putReply l done).commit :=
      exec_answers (k := .slotDrop) (payload := [byteOf i]) ready (Nat.le_add_left 1 _) rfl
        fun f payload => by rw [hv, hu, ← drops_live alive]; exact drops (.inl owner) left f payload
    have closed : (s.taking l).closes u c = true :=
      hu ▸ (closes alive cls c).2 ⟨rfl, pending, attempts, last⟩
    have ordered : u.Orders u v 0 .settledOut none := hv ▸ (State.Amid.refl u).conclude rfl
      (fun j gone => absurd (u.gone_self j) (by rw [gone]; exact nofun)) (s.taking l) rfl (.inl rfl)
    have answered := ordered.amid.putReply l done
    have posts : u.Posts (v.putReply l done).commit 0 := State.posts_putReply answered.posts_commit
    have tables : v.SameTables (v.putReply l done).commit :=
      (State.sameTables_putReply _ l _).trans (State.sameTables_commit _)
    have umode : u.mode = s.mode := by rw [hu]; exact State.taking_mode ..
    have uclasses : u.classes = s.classes := by rw [hu]; exact State.taking_classes ..
    have uslot (j : Fin 12) : u.slots[j] = if j = i then Slot.freed s.slots[i].gen else s.slots[j] := by
      rw [hu, State.dropped_slots, slots]
    have vslot (j : Fin 12) : (v.putReply l done).commit.slots[j] =
        if u.slots[j].live = true ∧ u.mode = .verify ∧ (v.putReply l done).commit.mode = .settled then
          u.slots[j].rejectedFor .settledOut
        else u.slots[j] := by
      rw [tables.slots, tables.mode, hv]
      exact State.conclude_slots _ u j
    have replying : u.putReply l done = dropped.replying l done := by
      rw [hu, ← drops_]
      cases l <;> rfl
    have vclasses : v.classes = put s.classes c
        { s.classes[c] with
          state := if s.classes[c].disposition = .optional then .declined else .failed } := by
      refine Vector.ext fun d hd => ?_
      have mine := State.conclude_classes (s.taking l) u ⟨d, hd⟩
      rw [← hv, uclasses] at mine
      refine mine.trans ((?_ : _ = _).trans (put_fin s.classes c _ ⟨d, hd⟩).symm)
      by_cases dc : (⟨d, hd⟩ : Fin 8) = c
      · rw [dc, if_pos rfl, if_pos closed]
        rfl
      · rw [if_neg dc, if_neg fun h => dc ((closes alive cls _).1 (hu ▸ h)).1]
    refine ⟨_, answer, ?_, fun j ji => ?_, tables.classes.trans vclasses, ?_, ?_, ?_, ?_,
      posts 1 (State.posted_class_bit fun same => ?_), State.putReply_ordinary _ l _⟩
    · rw [vslot, uslot, if_pos rfl]
      exact if_neg fun h => nomatch h.1
    · refine State.slotFollows umode ?_ (vslot j)
      rw [uslot, if_neg ji, if_neg fun h => last j ji h.1 h.2]
    · have follows : u.LinesFollow (v.putReply l done).commit :=
        State.linesFollow_conclude ⟨rfl, rfl, rfl, rfl, rfl⟩ (.inl ⟨c, closed⟩) (hv ▸ tables) posts
      refine follows.of_same ?_
      rw [hu]
      cases l <;> exact ⟨rfl, rfl, rfl, rfl, rfl⟩
    · rw [← replying]
      refine answered.ordersFollow ?_
      have kept : (u.putReply l done).recorded (v.putReply l done) = u.recorded v := by cases l <;> rfl
      rw [kept, State.putReply_faults, State.putReply_faults]
      exact ordered.foldl rfl
    · refine answered.chunks.trans ?_
      rw [replying]
      cases l <;> rfl
    · refine (answered.units.core.trans (State.putReply_core ..)).trans ?_
      rw [hu]
      cases l <;> rfl
    · have now := congrArg (fun w => w[c].state) (vclasses.symm.trans ((tables.classes.symm.trans same).trans
        uclasses))
      simp only [put_fin_self, pending] at now
      split at now <;> cases now

end Sys2Proof
end

section
/-! SUPPORT. A slot that enters VERIFIED, its class won, and the end of its event (R19, R110, R118). -/

namespace Sys2Proof.Machine

theorem State.SlotWins.of_same {s b t : State} {i : Fin 12} {x : Slot} {c : Fin 8} (h : b.SlotWins t i x c)
    (same : s.SameTables b) : s.SlotWins t i x c := by
  refine ⟨h.slot, ?_, fun j ji => (h.others j ji).of_same same,
    h.lines.of_same ⟨same.lines, same.mode, same.verdict, same.window, same.failedCount⟩, h.posts⟩
  rw [← same.classes]
  exact h.classes

theorem State.SlotWins.after {s t t' : State} {i : Fin 12} {x : Slot} {c : Fin 8} (h : s.SlotWins t i x c)
    (same : t.SameTables t') (links : ∀ k, (t'.link k).flags = (t.link k).flags) :
    s.SlotWins t' i x c := by
  refine ⟨?_, ?_, fun j ji => ?_, h.lines.after same links, fun k => ?_⟩
  · rw [same.slots]
    exact h.slot
  · rw [same.classes]
    exact h.classes
  · rw [State.SlotFollows, same.slots, same.mode]
    exact h.others j ji
  · rw [links]
    exact h.posts k

theorem State.verifySlot_count (s : State) (i : Fin 12) :
    (s.verifySlot i).verdict = s.verdict ∧ (s.verifySlot i).failedCount = s.failedCount := by
  simp only [State.verifySlot]
  split <;> simp

section
variable {b : State} {i : Fin 12} {y : Slot} {c : Fin 8} (cls : y.cls = some c)
include cls

/-- A slot as it is VERIFIED, and its class's order, before the event ends. -/
theorem State.verifySlot_orders : ∃ u₀ : State, u₀.faults = b.faults ∧
    b.Orders u₀ ((b.setSlot i y).verifySlot i) 0x003 .classDoneLate none := by
  have here : (b.setSlot i y).slots[i] = y := put_fin_self ..
  obtain ⟨w, hw⟩ : ∃ w, w = (b.setSlot i y).won i c := ⟨_, rfl⟩
  have slots (j : Fin 12) : w.slots[j] =
      if j = i then { y with state := .verified, sig := .passed } else b.slots[j] := by
    rw [hw, State.won_slots, here]
    by_cases ji : j = i
    · rw [if_pos ji, if_pos ji]
    · rw [if_neg ji, if_neg ji]
      exact put_fin_ne _ _ ji
  have body : w.post .classChange = ({ b with slots := w.slots, classes := w.classes } : State).raised 0x003 := by
    have flags (v : Half) : v ||| 0x001 ||| 0x002 = v ||| 0x003 := by rw [BitVec.or_assoc]; rfl
    rw [hw]
    simp only [State.won, State.setClass, State.setSlot, State.post, LinkState.raise, flagBit, flags,
      State.raised]
  obtain ⟨w₁, hw₁⟩ : ∃ w₁ : State, w₁ = { b with slots := w.slots, classes := w.classes } := ⟨_, rfl⟩
  rw [← hw₁] at body
  have wslots : w₁.slots = w.slots := by rw [hw₁]
  have none (j : Fin 12) : b.gone (w₁.raised 0x003) j = false := by
    have same : b.gone (w₁.raised 0x003) j = (b.slots[j].live && w.slots[j].state == .rejected) := by
      rw [hw₁]
      rfl
    rw [same, slots]
    split
    · rw [Bool.and_eq_false_iff]
      exact .inr rfl
    · exact b.gone_self j
  have start : b.Amid (w₁.raised 0x003) 0x003 := by
    refine .start ?_ (fun j live => ?_) none ?_ ?_
    · rw [hw₁]
      exact ⟨_, _, _, _, _, _, _, _, _, _, _, _, _, rfl⟩
    · change w₁.slots[j].live = true at live
      change w₁.slots[j] = _
      rw [wslots, slots] at live ⊢
      split at live
      · cases live
      next ji => rw [if_neg ji]
    · rw [hw₁]
      exact ⟨rfl, rfl, rfl⟩
    · have posted : b.posted (w₁.raised 0x003) 0x003 = 0x003 := by
        have kept : (w₁.raised 0x003).lines = b.lines ∧ (w₁.raised 0x003).mode = b.mode := by
          rw [hw₁]
          exact ⟨rfl, rfl⟩
        have unrejected : ¬∃ j, b.gone (w₁.raised 0x003) j = true := fun ⟨j, gone⟩ => by
          rw [none] at gone
          cases gone
        rw [State.posted, if_neg unrejected, if_pos kept.1, if_pos kept.2]
        split <;> rfl
      rw [posted, hw₁]
      exact ⟨rfl, rfl⟩
  refine ⟨w₁.raised 0x003, by rw [hw₁]; rfl, ?_⟩
  have ordered := start.order (p := fun j => w.slots[j].live && w.slots[j].cls == some c) (fun j named => by
      change w₁.slots[j].live = true
      rw [wslots]
      exact (Bool.and_eq_true_iff.1 named).1) (r := .classDoneLate) Option.none
    fun j gone => absurd (none j) (by rw [gone]; exact nofun)
  have ends : (b.setSlot i y).verifySlot i = (w₁.raised 0x003).rejectAll
      (indicesOf fun j => w.slots[j].live && w.slots[j].cls == some c) .classDoneLate Option.none := by
    rw [State.verifySlot_eq (by rw [here]; exact cls), ← hw, ← body, State.post_eq_raised,
      State.post_eq_raised, State.rejectAll_raised]
    rfl
  rw [ends]
  exact ordered

theorem State.verifySlot_others (j : Fin 12) : ((b.setSlot i y).verifySlot i).slots[j] =
    if j = i then { y with state := .verified, sig := .passed }
    else if b.slots[j].live = true ∧ b.slots[j].cls = some c then b.slots[j].rejectedFor .classDoneLate
    else b.slots[j] := by
  have here : (b.setSlot i y).slots[i] = y := put_fin_self ..
  rw [State.verifySlot_slots (by rw [here]; exact cls), here]
  by_cases ji : j = i
  · rw [if_pos ji, if_pos ji]
  · have other : (b.setSlot i y).slots[j] = b.slots[j] := put_fin_ne _ _ ji
    rw [if_neg ji, if_neg ji, other]

/-- The end of an event in which a live slot entered VERIFIED (R19, R110, R118). -/
theorem State.verifySlot_ends {before : State} (same : before.slots = b.slots) (live : b.slots[i].live = true)
    (own : b.slots[i].cls = some c) :
    b.Amid (before.conclude ((b.setSlot i y).verifySlot i)) 0x003 ∧
      (before.conclude ((b.setSlot i y).verifySlot i)).faults =
        [(.classDoneLate, none), (.settledOut, none)].foldl
          (b.recorded (before.conclude ((b.setSlot i y).verifySlot i))) b.faults ∧
      ∀ t : State, (before.conclude ((b.setSlot i y).verifySlot i)).SameTables t → b.Posts t 0x003 →
        b.SlotWins t i y c := by
  obtain ⟨u₀, ufaults, first⟩ := State.verifySlot_orders (b := b) (i := i) cls
  have slot := State.verifySlot_others (b := b) (i := i) cls
  have classes : ((b.setSlot i y).verifySlot i).classes =
      put b.classes c { b.classes[c] with state := .verified, verifiedSlot := some i } :=
    State.verifySlot_classes (by rw [show (b.setSlot i y).slots[i] = y from put_fin_self ..]; exact cls)
  have lines : ((b.setSlot i y).verifySlot i).lines = b.lines := State.verifySlot_lines ..
  have mode : ((b.setSlot i y).verifySlot i).mode = b.mode := State.verifySlot_mode ..
  have window : ((b.setSlot i y).verifySlot i).window = b.window := State.verifySlot_window ..
  have rest : ((b.setSlot i y).verifySlot i).verdict = b.verdict ∧
      ((b.setSlot i y).verifySlot i).failedCount = b.failedCount := State.verifySlot_count ..
  obtain ⟨u, hu⟩ : ∃ u, u = (b.setSlot i y).verifySlot i := ⟨_, rfl⟩
  rw [← hu] at first slot classes lines mode window rest ⊢
  obtain ⟨verdict, count⟩ := rest
  have second := first.amid.conclude mode (fun j gone => ?_) before lines (.inr rfl)
  case refine_1 =>
    obtain ⟨alive, rejected⟩ := (b.gone_iff u j).1 gone
    rw [slot] at rejected ⊢
    split at rejected
    · cases rejected
    · split at rejected
      next ji named =>
        rw [if_neg ji, if_pos named]
        exact nofun
      · rw [Slot.live, rejected] at alive
        cases alive
  have open_ (d : Fin 8) : before.closes u d = false := by
    rw [← Bool.not_eq_true, State.closes_iff]
    rintro ⟨⟨j, alive, ownj, dead⟩, pending, -⟩
    rw [same] at alive ownj
    have here : d = c := by
      rw [slot] at dead
      split at dead
      next ji =>
        subst ji
        exact Option.some.inj (ownj.symm.trans own)
      · split at dead
        next named => exact Option.some.inj (ownj.symm.trans named.2)
        · rw [alive] at dead
          cases dead
    rw [here, classes, put_fin_self] at pending
    cases pending
  have wins : before.wins u = true := by
    rw [State.wins, List.any_eq_true]
    refine ⟨i, List.mem_finRange i, ?_⟩
    rw [same, live, own, slot, if_pos rfl]
    rfl
  refine ⟨second.amid, first.foldl_two second nofun ufaults, fun t tables posts => ?_⟩
  have settled (j : Fin 12) : t.slots[j] =
      if u.slots[j].live = true ∧ u.mode = .verify ∧ t.mode = .settled then
        u.slots[j].rejectedFor .settledOut
      else u.slots[j] := by
    rw [tables.slots, tables.mode]
    exact before.conclude_slots u j
  refine ⟨?_, ?_, fun j ji => State.slotFollows mode ?_ (settled j),
    State.linesFollow_conclude ⟨lines, mode, verdict, window, count⟩ (.inr wins) tables posts,
    fun k => ⟨posts 0 (State.posted_own_bit rfl) k, posts 1 (State.posted_own_bit rfl) k⟩⟩
  · rw [settled, slot, if_pos rfl]
    exact if_neg fun h => nomatch h.1
  · rw [tables.classes, ← classes]
    refine Vector.ext fun d hd => ?_
    refine (before.conclude_classes u ⟨d, hd⟩).trans ?_
    rw [open_]
    rfl
  · rw [slot, if_neg ji]

end

end Sys2Proof.Machine
end

section
/-! SUPPORT. A segment that matches (R21, R50). -/

namespace Sys2Proof.Machine

theorem Slot.mapFull_iff {x : Slot} {p : Parsed} (parsed : x.parsed = some p) :
    x.mapFull = true ↔ x.segMap.countP id = p.segCount := by
  rw [Slot.mapFull, parsed]
  exact beq_iff_eq

end Sys2Proof.Machine

namespace Sys2Proof
open Machine

/-- Settles O31: the mark alone, or the slot's entry to VERIFIED and the end of its event. -/
theorem segmentMatches : Obligations.SegmentMatches := by
  intro s ch claim rest core claimed slot gen draining last ownGen equal after
  obtain ⟨w, hw⟩ : ∃ w : State, w = { s with core := none } := ⟨_, rfl⟩
  obtain ⟨b, hb⟩ : ∃ b, b = w.setCtx ch.ctx none := ⟨_, rfl⟩
  have slots : b.slots = s.slots := by rw [hb, hw]; rfl
  have finished (live : s.slots[claim.slot].live = true) : exec .chunkDigested s = .next
      (if s.slots[claim.slot].state = .signed ∧ after.mapFull = true then
        w.conclude ((b.setSlot claim.slot after).verifySlot claim.slot)
      else b.setSlot claim.slot after).coreTake.commit := by
    have stands : s.chunkClaim ch = some claim := State.chunkClaim_eq_some.2 ⟨claimed, slot, gen⟩
    have done : (claim.fold ch).draining = true ∧ (claim.fold ch).pendingChunks = 0 :=
      ⟨draining, by change claim.pendingChunks - 1 = 0; rw [last]⟩
    have folded := State.finishChunk_claim core stands
    have completes := State.completeCtx_match (s := w) (x := ch.ctx) (c := claim.fold ch)
      (by rw [hw]; exact live) (by rw [hw]; exact ownGen) (by rw [hw]; exact equal)
    rw [if_pos done, ← hw, completes] at folded
    rw [hb, hw] at *
    exact congrArg (fun t => Host.Outcome.next (State.commit t)) folded
  refine ⟨fun p stays => ?_, fun p c signed parsed cls full => ?_⟩
  · have live : s.slots[claim.slot].live = true :=
      (Slot.live_iff _).2 (.inr (stays.imp_right fun h => h.1))
    have unfull : ¬(s.slots[claim.slot].state = .signed ∧ after.mapFull = true) := by
      rintro ⟨signed, full⟩
      rcases stays with checking | ⟨-, parsed, count⟩
      · cases signed.symm.trans checking
      · exact count ((Slot.mapFull_iff parsed).1 full)
    have idle : (b.setSlot claim.slot after).core = none := by
      rw [hb, hw]
      rfl
    rw [finished live, if_neg unfull, State.coreTake_idle idle, hb, hw]
    exact congrArg Host.Outcome.next (State.commit_of_atRest (rest.same rfl rfl rfl rfl))
  · have live : s.slots[claim.slot].live = true := (Slot.live_iff _).2 (.inr (.inr signed))
    obtain ⟨amid, faults, wins⟩ := State.verifySlot_ends (b := b) (i := claim.slot) (y := after) cls
      (before := w) (by rw [slots, hw]) (by rw [slots]; exact live) (by rw [slots]; exact cls)
    obtain ⟨v, hv⟩ : ∃ v, v = w.conclude ((b.setSlot claim.slot after).verifySlot claim.slot) := ⟨_, rfl⟩
    rw [← hv] at amid faults wins
    have bcore : b.core = none := by rw [hb, hw]; rfl
    have idle : v.core = none := amid.units.core.trans bcore
    rw [finished live, if_pos ⟨signed, (Slot.mapFull_iff parsed).2 full⟩, ← hv, State.coreTake_commit idle]
    have same : s.SameTables b := by
      rw [hb, hw]
      exact ⟨rfl, rfl, rfl, rfl, rfl, rfl, rfl⟩
    have left : v.chunkQueue = s.chunksLeft v := amid.chunks.trans (by rw [hb, hw]; rfl)
    refine ⟨_, rfl, ((wins v.commit v.sameTables_commit amid.posts_commit).of_same same).after
      ⟨rfl, rfl, rfl, rfl, rfl, rfl, rfl⟩ ?_, ?_, ?_, ?_, ?_⟩
    · rintro (_ | _) <;> rfl
    · have found : ({ b with core := s.core } : State) = { s with ctxs := put s.ctxs ch.ctx none } := by
        rw [hb, hw]
        rfl
      rw [← found]
      exact (amid.ordersFollow faults).withCore _ s.core _
    · rw [left]
      rfl
    · rw [left]
      rfl
    · change v.ctxs[ch.ctx] = none
      rw [amid.ctxs, State.ctxsLeft, tabulate_fin, hb]
      have idle : (w.setCtx ch.ctx none).ctxs[ch.ctx] = none := put_fin_self ..
      rw [idle]

end Sys2Proof
end

section
/-! SUPPORT. SEG_CLOSE (R44, R48). -/

namespace Sys2Proof.Machine

section
variable {s : State} (mode : s.mode = .verify ∨ s.mode = .settled) (l : Link) {f : Frame}
include mode

theorem takeSegClose_badIndex (none : s.namedClaim f.payload = none) :
    takeSegClose l f s = serve s .badIndex [0] := by
  rw [takeSegClose, none, s.slotMode_iff.2 mode]
  rfl

theorem takeSegClose_claim {x : Fin 4} {c : Claim} (named : s.namedClaim f.payload = some (x, c)) :
    takeSegClose l f s =
      if s.slots[c.slot].owner ≠ some l then serve s .notOwner [if c.draining then 2 else 1]
      else if c.draining = true then serve s .slotState [2]
      else if c.received ≠ c.len then serve s .short [1]
      else if c.pendingChunks = 0 then serve (s.completeCtx x { c with draining := true }) .ok [0]
      else serve (s.setCtx x (some { c with draining := true })) .ok [2] := by
  have owner : (!s.claimOwnedBy c l) = true ↔ s.slots[c.slot].owner ≠ some l := by
    rw [State.claimOwnedBy, Bool.not_eq_true', beq_eq_false_iff_ne]
  rw [takeSegClose, named, s.slotMode_iff.2 mode]
  simp only [Bool.not_true, Bool.false_eq_true, if_false, owner, ctxCode, State.closeSegment]
  by_cases draining : c.draining = true
  · simp only [draining, if_true]
  · simp only [draining, Bool.false_eq_true, if_false, if_true]

end

end Sys2Proof.Machine

namespace Sys2Proof
open Machine

/-- Settles O20: the refusals in their order, and the context that drains or completes. -/
theorem segCloseDrains : Obligations.SegCloseDrains := by
  intro s l tag rest ready mode q
  obtain ⟨w, hw⟩ : ∃ w, w = s.taking l := ⟨_, rfl⟩
  have wmode : w.mode = .verify ∨ w.mode = .settled := by rw [hw]; simpa using mode
  have named (payload : List Byte) : w.namedClaim payload = s.namedClaim payload := by
    rw [hw, State.namedClaim_taking]
  have slots : w.slots = s.slots := by rw [hw, State.taking_slots]
  have ctxs : w.ctxs = s.ctxs := by rw [hw, State.taking_ctxs]
  have whole (a b gen : Byte) (seg : Nat) : ([a, b, gen] ++ leBytes 2 seg) =
      [a, b, gen] ++ leBytes 2 seg ++ [] := (List.append_nil _).symm
  refine ⟨fun a b gen seg small other => ?_, fun x claim claimed small => ?_⟩
  · refine exec_replied (k := .segClose) rest ready (by simp [leBytes]) rfl fun f payload =>
      hw ▸ takeSegClose_badIndex wmode l ?_
    rw [payload, named, whole]
    exact State.namedClaim_eq_none small [] other
  intro wire
  have answers (f : Frame)
      (payload : f.payload = [byteOf x, byteOf claim.slot, claim.gen] ++ leBytes 2 claim.seg) :=
    takeSegClose_claim (f := f) (x := x) (c := claim) wmode l (by
      rw [payload, named, whole]
      exact State.namedClaim_eq_some [] claimed small)
  simp only [slots] at answers
  have refused {status : Status} {reply : List Byte} (denied : ∀ f,
      f.payload = [byteOf x, byteOf claim.slot, claim.gen] ++ leBytes 2 claim.seg →
      takeSegClose l f w = serve w status reply) :
      exec (.segClose l wire) s = .next (s.replied l (replyOf .segClose tag status reply)) :=
    exec_replied (k := .segClose) rest ready (by simp [leBytes]) rfl fun f payload => hw ▸ denied f payload
  have completes (owner : s.slots[claim.slot].owner = some l) (filling : claim.draining = false)
      (full : claim.received = claim.len) (none : claim.pendingChunks = 0) :
      exec (.segClose l wire) s = .next ((w.completeCtx x { claim with draining := true }).putReply l
        (replyOf .segClose tag .ok [0])).commit :=
    exec_answers (k := .segClose) ready (by simp [leBytes]) rfl fun f payload => by
      refine hw ▸ (answers f payload).trans ?_
      rw [if_neg (not_not_intro owner), if_neg (by rw [filling]; exact nofun), if_neg (not_not_intro full),
        if_pos none]
  refine ⟨fun other => refused fun f payload => (answers f payload).trans (if_pos other),
    fun owner draining => refused fun f payload => (answers f payload).trans
      ((if_neg (not_not_intro owner)).trans (if_pos draining)),
    fun owner filling => ⟨fun short => refused fun f payload => (answers f payload).trans
      ((if_neg (not_not_intro owner)).trans ((if_neg (by rw [filling]; exact nofun)).trans (if_pos short))),
      fun full pending => ?_, fun full none gen equal => ?_, ?_⟩⟩
  · refine exec_served (k := .segClose) { s with ctxs := put s.ctxs x (some { claim with draining := true }) }
      (rest.same rfl rfl rfl rfl) (by cases l <;> exact ready.entry) ready (by simp [leBytes]) rfl
      fun f payload => ?_
    have closes := answers f payload
    rw [if_neg (not_not_intro owner), if_neg (by rw [filling]; exact nofun), if_neg (not_not_intro full),
      if_neg (by omega), hw] at closes
    refine closes.trans ?_
    cases l <;> rfl
  · intro after
    obtain ⟨b, hb⟩ : ∃ b, b = w.setCtx x Option.none := ⟨_, rfl⟩
    have bslots : b.slots = s.slots := by rw [hb, ← slots]; rfl
    have matches_ (live : s.slots[claim.slot].live = true) : w.completeCtx x { claim with draining := true } =
        if s.slots[claim.slot].state = .signed ∧ after.mapFull = true then
          w.conclude ((b.setSlot claim.slot after).verifySlot claim.slot)
        else b.setSlot claim.slot after := by
      have complete := State.completeCtx_match (s := w) (x := x) (c := { claim with draining := true })
        (by rw [slots]; exact live) (by rw [slots]; exact gen) (by rw [slots]; exact equal)
      rw [← hb] at complete
      simp only [slots] at complete
      refine complete.trans ?_
      rw [hb]
      rfl
    refine ⟨fun p stays => ?_, fun p c signed parsed cls fullMap => ?_⟩
    · have live : s.slots[claim.slot].live = true :=
        (Slot.live_iff _).2 (.inr (stays.imp_right fun h => h.1))
      have unfull : ¬(s.slots[claim.slot].state = .signed ∧ after.mapFull = true) := by
        rintro ⟨signed, fullMap⟩
        rcases stays with checking | ⟨-, parsed, count⟩
        · cases signed.symm.trans checking
        · exact count ((Slot.mapFull_iff parsed).1 fullMap)
      refine exec_served (k := .segClose)
        { s with ctxs := put s.ctxs x Option.none, slots := put s.slots claim.slot after }
        (rest.same rfl rfl rfl rfl) (by cases l <;> exact ready.entry) ready (by simp [leBytes]) rfl
        fun f payload => ?_
      have closes := answers f payload
      rw [if_neg (not_not_intro owner), if_neg (by rw [filling]; exact nofun), if_neg (not_not_intro full),
        if_pos none, matches_ live, if_neg unfull, hb, hw] at closes
      refine closes.trans ?_
      cases l <;> rfl
    · have live : s.slots[claim.slot].live = true := (Slot.live_iff _).2 (.inr (.inr signed))
      obtain ⟨amid, faults, wins⟩ := State.verifySlot_ends (b := b) (i := claim.slot) (y := after) cls
        (before := w) (by rw [slots, bslots]) (by rw [bslots]; exact live) (by rw [bslots]; exact cls)
      obtain ⟨v, hv⟩ : ∃ v, v = w.conclude ((b.setSlot claim.slot after).verifySlot claim.slot) := ⟨_, rfl⟩
      rw [← hv] at amid faults wins
      have answer := completes owner filling full none
      rw [matches_ live, if_pos ⟨signed, (Slot.mapFull_iff parsed).2 fullMap⟩, ← hv] at answer
      obtain ⟨r, hr⟩ : ∃ r, r = replyOf .segClose tag .ok [0] := ⟨_, rfl⟩
      rw [← hr] at answer ⊢
      have same : s.SameTables b := by
        rw [hb, hw]
        cases l <;> exact ⟨rfl, rfl, rfl, rfl, rfl, rfl, rfl⟩
      have answered := amid.putReply l r
      have replying : b.putReply l r = State.replying { s with ctxs := put s.ctxs x Option.none } l r := by
        rw [hb, hw]
        cases l <;> rfl
      have won := (wins _ ((State.sameTables_putReply v l r).trans (State.sameTables_commit _))
        (State.posts_putReply answered.posts_commit)).of_same same
      have kept : (b.putReply l r).recorded (v.putReply l r) = b.recorded v := by cases l <;> rfl
      refine ⟨_, answer, won, ?_, ?_, ?_, ?_, State.putReply_ordinary _ l _⟩
      · rw [← replying]
        refine answered.ordersFollow ?_
        rw [kept, State.putReply_faults, State.putReply_faults]
        exact faults
      · refine answered.chunks.trans ?_
        rw [replying]
        cases l <;> rfl
      · refine (answered.units.core.trans (State.putReply_core ..)).trans ?_
        rw [hb, hw]
        cases l <;> rfl
      · change (v.putReply l r).ctxs[x] = Option.none
        rw [State.putReply_ctxs, amid.ctxs, State.ctxsLeft, tabulate_fin, hb]
        have idle : (w.setCtx x Option.none).ctxs[x] = Option.none := put_fin_self ..
        rw [idle]
  · intro full none gen state expected mismatch
    have live : w.slots[claim.slot].live = true := by
      rw [slots]
      exact (Slot.live_iff _).2 (.inr state)
    obtain ⟨u, hu⟩ : ∃ u, u = w.reject claim.slot .segMismatch (some (byteOf claim.seg)) Option.none
      (padTo 4 expected ++ padTo 4 (sha256 claim.folded)) := ⟨_, rfl⟩
    have complete : w.completeCtx x { claim with draining := true } = w.conclude u := by
      have h := State.completeCtx_mismatch (s := w) (x := x) (c := { claim with draining := true })
        (d := claim) live (by rw [slots]; exact gen) (by rw [ctxs]; exact claimed) rfl
        (by rw [slots]; exact mismatch)
      simp only [slots] at h
      rw [h, hu]
    have answer := completes owner filling full none
    rw [complete] at answer
    obtain ⟨r, hr⟩ : ∃ r, r = replyOf .segClose tag .ok [0] := ⟨_, rfl⟩
    rw [← hr] at answer ⊢
    set faults := storeFault s.faults
      { stamp := s.bootClock, code := .segMismatch, link := some l, slot := some claim.slot,
        cls := s.slots[claim.slot].cls, seg := some (byteOf claim.seg), key := Option.none,
        detail := padTo 8 (padTo 4 expected ++ padTo 4 (sha256 claim.folded)) } with hfaults
    have names : w.Names u (fun j => j = claim.slot) fun _ => .segMismatch := hu ▸ w.names_reject live ..
    have stored : u.faults = faults := by
      rw [hu, State.reject_faults, State.rejection, slots, owner, hw]
      cases l <;> rfl
    have same : s.SameTables { w with faults := faults } := by
      rw [hw]
      cases l <;> exact ⟨rfl, rfl, rfl, rfl, rfl, rfl, rfl⟩
    have replying : State.putReply { w with faults := faults } l r =
        State.replying { s with faults := faults } l r := by
      rw [hw]
      cases l <;> rfl
    obtain ⟨rejects, orders, chunks, core, ordinary⟩ := (names.withFaults faults).replies
      ((hu ▸ (State.Amid.refl w).reject live .. : w.Amid u 0).withFaults faults) stored (fun _ _ => nofun)
      (fun d _ => names.departs d) names.wins (l := l) (r := r) rfl
    rw [replying] at orders
    refine ⟨_, answer, rejects.of_same same, orders, chunks.trans ?_, core.trans ?_, ordinary⟩
    · rw [hw]
      cases l <;> rfl
    · rw [hw]
      cases l <;> rfl

end Sys2Proof
end

section
/-! SUPPORT. The end of a job: its report, and the job that the unit takes next (R4, R20, R60, R63 to R65). -/

namespace Sys2Proof.Machine

/-! ### The next job -/

theorem State.StartsNext.congr {s t : State} (same : t.SameJobs s) {next : Option ActiveJob} {rest : List Job}
    (h : s.StartsNext next rest) : t.StartsNext next rest := by
  obtain ⟨jobs, slots, fuses, rom⟩ := same
  rcases h with ⟨empty, none, nil⟩ | ⟨n, g, q, head, parsed, key, starts⟩ | ⟨l, target, r, sig, head, starts⟩
  · exact .inl ⟨jobs.symm.trans empty, none, nil⟩
  · refine .inr (.inl ⟨n, g, q, jobs.symm.trans head, (slots n).1.symm.trans parsed, ?_, ?_⟩)
    · rw [← State.keyState_congr fuses]
      exact key
    · rw [starts, (slots n).2, State.keyBytes_congr fuses rom]
  · refine .inr (.inr ⟨l, target, r, sig, jobs.symm.trans head, ?_⟩)
    rw [starts, rom]

/-- The oldest waiting job is no manifest job of a REVOKED key, and has its inputs (R62, R63). -/
def State.HeadStarts (s : State) : Prop :=
  ∀ n g rest, s.jobs = .manifest n g :: rest →
    ∃ q, s.slots[n].parsed = some q ∧ s.keyState q.key ≠ .revoked

theorem State.HeadStarts.endStarts {s : State} (h : s.HeadStarts) : s.endStarts = s :=
  State.endStarts_none fun n g rest jobs => by
    obtain ⟨q, parsed, key⟩ := h n g rest jobs
    exact State.slotKeyRevoked_eq_false parsed key

/-- An idle unit starts the oldest job (R60). -/
theorem State.HeadStarts.takeJob {s : State} (h : s.HeadStarts) (idle : s.active = none) :
    ∃ next rest, s.StartsNext next rest ∧ s.takeJob = { s with active := next, jobs := rest } := by
  cases jobs : s.jobs with
  | nil =>
    refine ⟨none, [], .inl ⟨jobs, rfl, rfl⟩, ?_⟩
    rw [State.takeJob, jobs]
    dsimp only
    rw [← idle, ← jobs]
  | cons j rest =>
    refine ⟨some (s.startedJob j), rest, ?_, by rw [State.takeJob, jobs]⟩
    cases j with
    | manifest n g =>
      obtain ⟨q, parsed, key⟩ := h n g rest jobs
      exact .inr (.inl ⟨n, g, q, jobs, parsed, key, congrArg some (State.startedJob_manifest parsed g)⟩)
    | revoke l target r sig =>
      exact .inr (.inr ⟨l, target, r, sig, jobs, congrArg some (State.startedJob_revoke ..)⟩)

/-- The unit goes on from the end of an event that left it idle (R60, R65). -/
theorem State.Amid.unitGoesOn {b v : State} {own : Half} (amid : b.Amid v own)
    {orders : List (FaultCode × Option (Fin 10))} (faults : v.faults = orders.foldl (b.recorded v) b.faults)
    (idle : b.active = none)
    (inputs : ∀ n : Fin 12, v.slots[n].parsed = b.slots[n].parsed ∧ v.slots[n].buffer = b.slots[n].buffer)
    (starts : v.HeadStarts) {t : State} (ends : v.endStarts.takeJob.commit = t) :
    b.UnitGoesOn t own orders ∧ v.SameTables t ∧ b.Posts t own ∧ t.chunkQueue = b.chunksLeft t ∧
      t.core = b.core := by
  have units := amid.units
  have kept : v.active = b.active ∧ v.fuses = b.fuses ∧ v.rom = b.rom := by
    obtain ⟨_, _, _, _, _, _, _, _, _, _, _, _, _, rfl⟩ := units
    exact ⟨rfl, rfl, rfl⟩
  obtain ⟨active, fuses, rom⟩ := kept
  obtain ⟨next, rest, startsNext, takes⟩ := starts.takeJob (active.trans idle)
  rw [starts.endStarts, takes] at ends
  have follows := amid.ordersFollow faults
  have posts := amid.posts_commit
  subst ends
  refine ⟨⟨⟨follows.ctxs, rfl, follows.faults, follows.posts, follows.links, ?_, follows.rest⟩, ?_⟩,
    ⟨rfl, rfl, rfl, rfl, rfl, rfl, rfl⟩, fun n bit k => ?_, amid.chunks, units.core⟩
  · obtain ⟨fuses, op, reserved, revoking, -⟩ := follows.units
    exact ⟨fuses, op, reserved, revoking, rfl⟩
  · have same : ({ b with jobs := b.jobsLeft v } : State).SameJobs v :=
      ⟨amid.jobs, inputs, fuses, rom⟩
    exact startsNext.congr same
  · have flag := posts n bit k
    cases k <;> exact flag

/-! ### Reports -/

section
variable {s : State} {i : Fin 12} {gen : Byte} {message key sig : List Byte}
  (active : s.active = some (.manifest i gen message key sig))
include active

theorem exec_manifestJobEnd : exec .manifestJobEnd s = .next (s.startNext
    (({ s with active := none } : State).jobReport i gen
      (if signatureGood (sha256 message) key sig then .pass else .fail))).commit := by
  have ends : exec .manifestJobEnd s = .next s.endManifestJob.commit := rfl
  rw [ends, State.endManifestJob, active]

end

theorem State.startNext_idle {before s : State} (idle : s.active = none) :
    before.startNext s = (before.conclude s.endStarts).endStarts.takeJob :=
  if_neg (by rw [idle]; exact nofun)

section
variable {s : State} {i : Fin 12} {gen : Byte}

theorem State.jobReport_gone (gone : s.slots[i].live = false ∨ s.slots[i].gen ≠ gen) (r : JobResult) :
    s.jobReport i gen r = s := by
  refine if_neg fun applies => ?_
  obtain ⟨live, same⟩ := (s.reportApplies_iff i gen).1 applies
  rcases gone with dead | other
  · cases dead.symm.trans live
  · exact other same

variable (live : s.slots[i].live = true) (same : s.slots[i].gen = gen)
include live same

theorem State.jobReport_signed (unfull : ¬s.slots[i].mapFull = true) :
    s.jobReport i gen .pass = s.setSlot i { s.slots[i] with state := .signed, sig := .passed } :=
  (if_pos ((s.reportApplies_iff i gen).2 ⟨live, same⟩)).trans (if_neg unfull)

theorem State.jobReport_verified (full : s.slots[i].mapFull = true) :
    s.jobReport i gen .pass = s.verifySlot i :=
  (if_pos ((s.reportApplies_iff i gen).2 ⟨live, same⟩)).trans (if_pos full)

theorem State.jobReport_failed : s.jobReport i gen .fail =
    (s.setSlot i { s.slots[i] with sig := .failed }).reject i .badSignature none s.slots[i].keyIndex [] :=
  if_pos ((s.reportApplies_iff i gen).2 ⟨live, same⟩)

theorem State.jobReport_revoked : s.jobReport i gen .keyRevokedAtStart =
    s.reject i .keyRevoked none s.slots[i].keyIndex [] :=
  if_pos ((s.reportApplies_iff i gen).2 ⟨live, same⟩)

end

/-- The end of an event leaves a slot's manifest as it was. -/
theorem State.conclude_inputs (before u : State) (n : Fin 12) :
    (before.conclude u).slots[n].parsed = u.slots[n].parsed ∧
      (before.conclude u).slots[n].buffer = u.slots[n].buffer := by
  rw [before.conclude_slots u n]
  split <;> exact ⟨rfl, rfl⟩

/-- One slot's index, as an order names it. -/
theorem indicesOf_single (i : Fin 12) : indicesOf (fun j => j == i) = [i] := by
  revert i
  decide

/-- Every waiting manifest job can start, so whichever is left at the head can (R62). -/
theorem State.JobsCanStart.headStarts {s v : State} (h : s.JobsCanStart)
    (jobs : ∀ j ∈ v.jobs, j ∈ s.jobs) (parsed : ∀ n : Fin 12, v.slots[n].parsed = s.slots[n].parsed)
    (fuses : v.fuses = s.fuses) : v.HeadStarts := by
  intro n g rest head
  obtain ⟨q, has, key⟩ := h n g (jobs _ (by rw [head]; exact List.mem_cons_self))
  exact ⟨q, (parsed n).trans has, by rw [State.keyState_congr fuses]; exact key⟩

theorem State.mem_jobsLeft {s u : State} {j : Job} (mem : j ∈ s.jobsLeft u) : j ∈ s.jobs :=
  (List.mem_filter.1 mem).1

end Sys2Proof.Machine

namespace Sys2Proof
open Machine

/-- Settles O34: the slot's entry to VERIFIED, the end of its event, and the unit's next job. -/
theorem slotVerifiedWinsClass : Obligations.SlotVerifiedWinsClass := by
  intro s i c p gen message key sig active canStart state same parsed cls full good
  obtain ⟨b, hb⟩ : ∃ b : State, b = { s with active := none } := ⟨_, rfl⟩
  have slots : b.slots = s.slots := by rw [hb]
  have live : b.slots[i].live = true := by
    rw [slots]
    exact (Slot.live_iff _).2 (.inr (.inl state))
  have self : b.setSlot i b.slots[i] = b := by
    have kept : put b.slots i b.slots[i] = b.slots := put_self _ _
    rw [State.setSlot, kept]
  have bcls : b.slots[i].cls = some c := by rw [slots]; exact cls
  obtain ⟨amid, faults, wins⟩ := State.verifySlot_ends (b := b) (i := i) (y := b.slots[i]) bcls
    (before := s) slots.symm live bcls
  have others := State.verifySlot_others (b := b) (i := i) (y := b.slots[i]) bcls
  obtain ⟨u₀, -, first⟩ := State.verifySlot_orders (b := b) (i := i) (y := b.slots[i]) bcls
  rw [self] at amid faults wins others first
  obtain ⟨u, hu⟩ : ∃ u, u = b.verifySlot i := ⟨_, rfl⟩
  rw [← hu] at amid faults wins others first
  have outcome : exec .manifestJobEnd s = .next (s.startNext u).commit := by
    rw [exec_manifestJobEnd active, good, if_pos rfl, ← hb, State.jobReport_verified live
      (by rw [slots]; exact same) (by rw [slots]; exact (Slot.mapFull_iff parsed).2 full), hu]
  have inputs (n : Fin 12) : u.slots[n].parsed = s.slots[n].parsed ∧
      u.slots[n].buffer = s.slots[n].buffer := by
    rw [others, slots]
    split
    next ni => subst ni; exact ⟨rfl, rfl⟩
    · split <;> exact ⟨rfl, rfl⟩
  have ufuses : u.fuses = s.fuses := first.amid.units.fuses.trans (by rw [hb])
  have bjobs : b.jobs = s.jobs := by rw [hb]
  have starts : u.HeadStarts := canStart.headStarts (fun j mem => by
    rw [first.amid.jobs] at mem
    rw [← bjobs]
    exact State.mem_jobsLeft mem) (fun n => (inputs n).1) ufuses
  have idle : u.active = none := by
    rw [hu, State.verifySlot_active, hb]
  obtain ⟨v, hv⟩ : ∃ v, v = s.conclude u := ⟨_, rfl⟩
  have vinputs (n : Fin 12) : v.slots[n].parsed = s.slots[n].parsed ∧ v.slots[n].buffer = s.slots[n].buffer := by
    have kept := s.conclude_inputs u n
    rw [← hv] at kept
    exact ⟨kept.1.trans (inputs n).1, kept.2.trans (inputs n).2⟩
  rw [← hv] at amid faults wins
  rw [State.startNext_idle idle, starts.endStarts, ← hv] at outcome
  have vstarts : v.HeadStarts := canStart.headStarts (fun j mem => by
    rw [amid.jobs] at mem
    rw [← bjobs]
    exact State.mem_jobsLeft mem) (fun n => (vinputs n).1) (amid.units.fuses.trans (by rw [hb]))
  obtain ⟨goesOn, tables, posts, chunks, core⟩ := amid.unitGoesOn faults (by rw [hb])
    (fun n => by rw [slots]; exact vinputs n) vstarts rfl
  have sameTables : s.SameTables b := by
    rw [hb]
    exact ⟨rfl, rfl, rfl, rfl, rfl, rfl, rfl⟩
  have won := (wins _ tables posts).of_same sameTables
  rw [slots] at won
  refine ⟨_, outcome, won, hb ▸ goesOn, chunks.trans ?_, core.trans (by rw [hb])⟩
  rw [hb]
  rfl

end Sys2Proof
end

section
/-! SUPPORT. The report of a manifest job, without a job whose key reads REVOKED behind it (R4, R20, R64). -/

namespace Sys2Proof.Machine

/-- Where every slot keeps its state, no class closes and none is won. -/
theorem State.conclude_kept {before u : State}
    (dead : ∀ j : Fin 12, before.slots[j].live = true → u.slots[j].live = true) : before.conclude u = u := by
  refine State.conclude_still (fun c => ?_) ?_
  · rw [← Bool.not_eq_true, State.closes_iff]
    rintro ⟨⟨j, live, -, lost⟩, -⟩
    cases lost.symm.trans (dead j live)
  · rw [State.wins, List.any_eq_false]
    intro j _ won
    rw [Bool.and_eq_true, Bool.and_eq_true, beq_iff_eq] at won
    obtain ⟨⟨live, -⟩, verified⟩ := won
    have alive := dead j live
    rw [Slot.live, verified] at alive
    cases alive

/-- Jobs that leave the list from behind its head leave the head to start (R60, R65). -/
theorem State.StartsNext.filter {s : State} {next : Option ActiveJob} {rest : List Job}
    (h : s.StartsNext next rest) {j : Job} (head : s.jobs.head? ≠ some j) :
    ({ s with jobs := s.jobs.filter fun k => k != j } : State).StartsNext next
      (rest.filter fun k => k != j) := by
  have keeps {k : Job} (jobs : s.jobs = k :: rest) :
      (s.jobs.filter fun k => k != j) = k :: rest.filter fun k => k != j := by
    rw [jobs, List.filter_cons, if_pos]
    rw [bne_iff_ne]
    rintro rfl
    exact head (by rw [jobs]; rfl)
  rcases h with ⟨empty, none, nil⟩ | ⟨n, g, q, jobs, parsed, key, starts⟩ | ⟨l, target, r, sig, jobs, starts⟩
  · refine .inl ⟨?_, none, by rw [nil]; rfl⟩
    change List.filter _ s.jobs = []
    rw [empty]
    rfl
  · exact .inr (.inl ⟨n, g, q, keeps jobs, parsed, key, starts⟩)
  · exact .inr (.inr ⟨l, target, r, sig, keeps jobs, starts⟩)

/-- The event's end finds the live slots of the part as it was before a record beside them changed. -/
theorem State.Names.found {before s u : State} {named : Fin 12 → Prop} {reason : Fin 12 → FaultCode}
    (h : s.Names u named reason)
    (same : ∀ j : Fin 12, before.slots[j].live = s.slots[j].live ∧ before.slots[j].cls = s.slots[j].cls) :
    before.wins u = false ∧ ∀ c,
      ((∃ i : Fin 12, before.slots[i].live = true ∧ before.slots[i].cls = some c ∧
        u.slots[i].live = false) ↔ ∃ j : Fin 12, named j ∧ s.slots[j].cls = some c) := by
  refine ⟨?_, fun c => ?_⟩
  · rw [← h.wins, State.wins, State.wins]
    simp only [same]
  · rw [← h.departs c]
    simp only [same]

/-- What is left of the chunks reads which slots were live and their generations alone. -/
theorem State.chunksLeft_congr {s b t : State} (chunks : b.chunkQueue = s.chunkQueue)
    (same : ∀ j : Fin 12, b.slots[j].live = s.slots[j].live ∧ b.slots[j].gen = s.slots[j].gen) :
    b.chunksLeft t = s.chunksLeft t := by
  rw [State.chunksLeft, State.chunksLeft, chunks]
  refine List.filter_congr fun ch _ => ?_
  obtain ⟨live, gen⟩ := same ch.slot
  rw [State.gone, State.gone, live, gen]

end Sys2Proof.Machine

namespace Sys2Proof
open Machine

/-- Settles O33: the report by its result, the end of its event, and the unit's next job. -/
theorem manifestJobReports : Obligations.ManifestJobReports := by
  intro s i gen message key sig next rest atRest active startsNext
  obtain ⟨w, hw⟩ : ∃ w : State, w = { s with active := none } := ⟨_, rfl⟩
  have slots : w.slots = s.slots := by rw [hw]
  have outcome := exec_manifestJobEnd active
  rw [← hw] at outcome
  refine ⟨fun gone => ?_, fun p state same parsed good unfull => ?_,
    fun p c state same parsed cls exhausts bad canStart => ?_,
    fun p c state same parsed cls kept bad head => ?_⟩
  · rw [outcome, State.jobReport_gone (by rw [slots]; exact gone), State.startNext_next
      (.of_slots (by rw [hw]) slots (by rw [hw]) (by rw [hw])) (by rw [hw]) startsNext
      (State.conclude_same slots), hw]
    exact congrArg _ (State.commit_of_atRest (atRest.same rfl rfl rfl rfl))
  · have live : w.slots[i].live = true := by
      rw [slots]
      exact (Slot.live_iff _).2 (.inr (.inl state))
    have signed : w.jobReport i gen .pass =
        w.setSlot i { s.slots[i] with state := .signed, sig := .passed } := by
      rw [State.jobReport_signed live (by rw [slots]; exact same) (by
        rw [slots, Slot.mapFull_iff parsed]
        exact unfull), slots]
    have slot (j : Fin 12) : (w.setSlot i { s.slots[i] with state := .signed, sig := .passed }).slots[j] =
        if j = i then { s.slots[i] with state := .signed, sig := .passed } else s.slots[j] :=
      (put_fin ..).trans (by rw [slots])
    rw [outcome, good, if_pos rfl, signed, State.startNext_next (s := s) ⟨by rw [hw]; rfl, fun n => ?_,
      by rw [hw]; rfl, by rw [hw]; rfl⟩ (by rw [hw]; rfl) startsNext (State.conclude_kept fun j alive => ?_), hw]
    · exact congrArg _ (State.commit_of_atRest (atRest.same rfl rfl rfl rfl))
    · rw [slot]
      split
      next ni => subst ni; exact ⟨rfl, rfl⟩
      · exact ⟨rfl, rfl⟩
    · rw [slot]
      split
      · rfl
      · exact alive
  all_goals
    have bare : ({ s with
        active := none, slots := put s.slots i { s.slots[i] with sig := .failed } } : State) =
        w.setSlot i { s.slots[i] with sig := .failed } := by rw [hw]; rfl
    obtain ⟨b, hb⟩ : ∃ b, b = w.setSlot i { s.slots[i] with sig := .failed } := ⟨_, rfl⟩
    have slot (j : Fin 12) : b.slots[j] =
        if j = i then { s.slots[i] with sig := .failed } else s.slots[j] := by
      rw [hb]
      exact (put_fin ..).trans (by rw [slots])
    have live : b.slots[i].live = true := by
      rw [slot, if_pos rfl]
      exact (Slot.live_iff _).2 (.inr (.inl state))
    have failed : w.jobReport i gen .fail = b.reject i .badSignature none (some p.key) [] := by
      rw [State.jobReport_failed (by rw [slots]; exact (Slot.live_iff _).2 (.inr (.inl state)))
        (by rw [slots]; exact same), slots, Slot.keyIndex, parsed, hb]
      rfl
    obtain ⟨u, hu⟩ : ∃ u, u = b.reject i .badSignature none (some p.key) [] := ⟨_, rfl⟩
    rw [bad, if_neg nofun, failed, ← hu] at outcome
    have names : b.Names u (fun j => j = i) fun _ => .badSignature := hu ▸ b.names_reject live ..
    have found := names.found (before := s) fun j => by
      rw [slot]
      split
      next ji => subst ji; exact ⟨rfl, rfl⟩
      · exact ⟨rfl, rfl⟩
    have idle : u.active = none := by
      rw [hu, State.reject_active, hb, hw]
      rfl
  · have unjobs : b.jobs = s.jobs := by rw [hb, hw]; rfl
    have unfuses : b.fuses = s.fuses := by rw [hb, hw]; rfl
    have single : u = b.rejectAll (indicesOf fun j => j == i) .badSignature (some p.key) := by
      rw [indicesOf_single, hu]
      rfl
    have first : b.Orders b u 0 .badSignature (some p.key) := single ▸ (State.Amid.refl b).order
      (fun j ji => by rw [beq_iff_eq.1 ji]; exact live) (some p.key)
      fun j gone => absurd (b.gone_self j) (by rw [gone]; exact nofun)
    have second := names.concludes first.amid s fun _ _ => nofun
    have inputs (n : Fin 12) : u.slots[n].parsed = b.slots[n].parsed ∧
        u.slots[n].buffer = b.slots[n].buffer := by
      by_cases ni : n = i
      · rw [(names.slots n).1 ni]
        exact ⟨rfl, rfl⟩
      · rw [(names.slots n).2 ni]
        exact ⟨rfl, rfl⟩
    have bparsed (n : Fin 12) : b.slots[n].parsed = s.slots[n].parsed := by
      rw [slot]
      split
      next ni => subst ni; rfl
      · rfl
    obtain ⟨v, hv⟩ : ∃ v, v = s.conclude u := ⟨_, rfl⟩
    rw [← hv] at second
    have vinputs (n : Fin 12) : v.slots[n].parsed = b.slots[n].parsed ∧
        v.slots[n].buffer = b.slots[n].buffer := by
      have kept := s.conclude_inputs u n
      rw [← hv] at kept
      exact ⟨kept.1.trans (inputs n).1, kept.2.trans (inputs n).2⟩
    have starts {t : State} (amid : b.Amid t 0) (parsed : ∀ n : Fin 12, t.slots[n].parsed = b.slots[n].parsed) :
        t.HeadStarts := canStart.headStarts (fun j mem => by
          rw [amid.jobs] at mem
          rw [← unjobs]
          exact State.mem_jobsLeft mem) (fun n => (parsed n).trans (bparsed n))
        (amid.units.fuses.trans unfuses)
    rw [State.startNext_idle idle, (starts first.amid fun n => (inputs n).1).endStarts, ← hv] at outcome
    obtain ⟨goesOn, tables, posts, chunks, core⟩ := second.amid.unitGoesOn
      (first.foldl_two second nofun rfl) (by rw [hb, hw]; rfl) vinputs
      (starts second.amid fun n => (vinputs n).1) rfl
    have rejects := names.rejectsFor (before := s) (fun d _ => found.2 d)
      ⟨fun won => absurd won (Bool.eq_false_iff.1 found.1), False.elim⟩ False.elim (hv ▸ tables) posts
    refine ⟨_, outcome, ?_⟩
    rw [bare, ← hb]
    refine ⟨rejects, goesOn, chunks.trans ?_, core.trans (by rw [hb, hw]; rfl)⟩
    refine State.chunksLeft_congr (by rw [hb, hw]; rfl) fun j => ?_
    rw [slot]
    split
    next ji => subst ji; exact ⟨rfl, rfl⟩
    · exact ⟨rfl, rfl⟩
  · obtain ⟨left, hleft⟩ : ∃ left : State, left = { s with
        active := next
        jobs := rest.filter fun j => j != .manifest i gen
        ctxs := tabulate fun y => s.ctxs[y].filter fun d => d.slot != i
        chunkQueue := s.chunkQueue.filter fun e => !(e.slot == i && e.gen == gen)
        slots := put s.slots i (Slot.rejectedFor { s.slots[i] with sig := .failed } .badSignature)
        faults := storeFault s.faults
          { stamp := s.bootClock, code := .badSignature, link := s.slots[i].owner, slot := some i,
            cls := some c, seg := none, key := some p.key, detail := List.replicate 8 0 } } := ⟨_, rfl⟩
    have still : s.conclude u = u := by
      refine State.conclude_still (fun d => Bool.eq_false_iff.2 fun closes => kept ?_) found.1
      obtain ⟨pending, attempts, ⟨j, ji, own⟩, last⟩ := (names.closes_iff (fun d _ => found.2 d) d).1 closes
      subst ji
      rw [slot, if_pos rfl] at own
      obtain rfl : d = c := Option.some.inj (own.symm.trans cls)
      have classes : b.classes = s.classes := by rw [hb, hw]; rfl
      rw [classes] at pending attempts
      refine ⟨pending, attempts, ⟨j, rfl, cls⟩, fun k alive its => ?_⟩
      refine last k ?_ ?_
      · rw [slot]
        split
        next kj => subst kj; exact alive
        · exact alive
      · rw [slot]
        split
        next kj => subst kj; exact its
        · exact its
    have here : b.slots[i] = { s.slots[i] with sig := .failed } := by rw [slot, if_pos rfl]
    have whole : u = State.raised { b with
        slots := put b.slots i (b.slots[i].rejectedFor .badSignature)
        ctxs := tabulate fun x => b.ctxs[x].filter fun c => c.slot != i
        chunkQueue := b.chunkQueue.filter fun ch => !(ch.slot == i && ch.gen == b.slots[i].gen)
        jobs := b.jobs.filter fun j => j != .manifest i b.slots[i].gen
        faults := storeFault b.faults (b.rejection i .badSignature none (some p.key) []) } 0x081 :=
      hu.trans (State.reject_eq live ..)
    have fault : b.rejection i .badSignature none (some p.key) [] =
        { stamp := s.bootClock, code := .badSignature, link := s.slots[i].owner, slot := some i,
          cls := some c, seg := none, key := some p.key, detail := List.replicate 8 0 } := by
      rw [State.rejection, here, hb, hw, ← cls]
      rfl
    have gens : b.slots[i].gen = gen := by
      rw [here]
      exact same
    rw [fault, gens, here] at whole
    have bslots : put b.slots i (Slot.rejectedFor { s.slots[i] with sig := .failed } .badSignature) =
        put s.slots i (Slot.rejectedFor { s.slots[i] with sig := .failed } .badSignature) := by
      rw [hb, hw]
      exact put_put ..
    have sameJobs : ({ s with jobs := s.jobs.filter fun k => k != .manifest i gen } : State).SameJobs u := by
      refine ⟨by rw [whole, hb, hw]; rfl, fun n => ?_, by rw [whole, hb, hw]; rfl, by rw [whole, hb, hw]; rfl⟩
      by_cases ni : n = i
      · subst ni
        rw [(names.slots n).1 rfl, here]
        exact ⟨rfl, rfl⟩
      · rw [(names.slots n).2 ni, slot, if_neg ni]
        exact ⟨rfl, rfl⟩
    rw [outcome, State.startNext_next sameJobs idle (startsNext.filter head) still, whole, bslots, hb, hw]
    refine congrArg Host.Outcome.next (Eq.trans (b := left.flagged 0x081) (by rw [hleft]; rfl)
      (congrArg (fun t => State.flagged t 0x081) ?_))
    rw [hleft]
    congr 1
    refine congrArg tabulate (funext fun y => ?_)
    cases s.ctxs[y] with
    | none => rfl
    | some d => by_cases own : d.slot = i <;> simp [own]

end Sys2Proof
end

section
/-! SUPPORT. Manifest jobs that end at their start, in the event of another job's end (R20, R60, R62, R65). -/

namespace Sys2Proof.Machine

/-- The slots of jobs that end at their start, rejected in job order (R62). -/
def State.revokeNamed (u : State) (named : List (Fin 12)) : State :=
  named.foldl (fun t n => t.reject n .keyRevoked none t.slots[n].keyIndex []) u

theorem State.revokeNamed_cons (u : State) (n : Fin 12) (rest : List (Fin 12)) : u.revokeNamed (n :: rest) =
    (u.reject n .keyRevoked none u.slots[n].keyIndex []).revokeNamed rest := rfl

/-- A job that leaves the list before its slot is rejected leaves with the rejection all the same (R65). -/
theorem State.reject_popped {u : State} {n : Fin 12} {jobs : List Job}
    (head : u.jobs = .manifest n u.slots[n].gen :: jobs) (live : u.slots[n].live = true) (r : FaultCode)
    (g : Option Byte) (k : Option (Fin 10)) (d : List Byte) :
    ({ u with jobs := jobs } : State).reject n r g k d = u.reject n r g k d := by
  have filtered : (u.jobs.filter fun j => j != .manifest n u.slots[n].gen) =
      jobs.filter fun j => j != .manifest n u.slots[n].gen := by
    rw [head, List.filter_cons, if_neg (by simp)]
  rw [State.reject_eq live, filtered]
  exact State.reject_eq (s := { u with jobs := jobs }) live ..

theorem State.jobReport_popped {u : State} {n : Fin 12} {jobs : List Job}
    (head : u.jobs = .manifest n u.slots[n].gen :: jobs) (live : u.slots[n].live = true) :
    ({ u with jobs := jobs } : State).jobReport n u.slots[n].gen .keyRevokedAtStart =
      u.reject n .keyRevoked none u.slots[n].keyIndex [] := by
  obtain ⟨w, hw⟩ : ∃ w : State, w = { u with jobs := jobs } := ⟨_, rfl⟩
  have slots : w.slots = u.slots := by rw [hw]
  rw [← hw, State.jobReport_revoked (by rw [slots]; exact live) (by rw [slots]), slots, hw,
    State.reject_popped head live]

theorem State.slotKeyRevoked_of {s : State} {n : Fin 12} {p : Parsed} (parsed : s.slots[n].parsed = some p)
    (key : s.keyState p.key = .revoked) : s.slotKeyRevoked n = true := by
  simp only [State.slotKeyRevoked, Slot.keyIndex, parsed, Option.map_some, key]
  rfl

/-- The jobs behind the one that ends go on as they were (R62, R65). -/
theorem State.EndAtStart.step {u : State} {n : Fin 12} {rest : List (Fin 12)} {later : List Job}
    (h : u.EndAtStart u.jobs (n :: rest) later) :
    (u.reject n .keyRevoked none u.slots[n].keyIndex []).EndAtStart
      (u.reject n .keyRevoked none u.slots[n].keyIndex []).jobs rest later := by
  obtain ⟨new, distinct⟩ := List.nodup_cons.1 h.distinct
  have live := (h.revoked n List.mem_cons_self).1
  have other (m : Fin 12) (mn : m ≠ n) :
      (u.reject n .keyRevoked none u.slots[n].keyIndex []).slots[m] = u.slots[m] := by
    rw [State.reject_slots live, put_fin_ne _ _ mn]
  have named (m : Fin 12) (mem : m ∈ rest) : m ≠ n := fun mn => new (mn ▸ mem)
  have behind (m : Fin 12) (g : Byte) (mem : Job.manifest m g ∈ later) : m ≠ n := fun mn =>
    (h.live m g mem).1 (by rw [mn]; exact List.mem_cons_self)
  have keys (k : Fin 10) :
      (u.reject n .keyRevoked none u.slots[n].keyIndex []).keyState k = u.keyState k :=
    State.keyState_congr (State.reject_fuses ..) k
  refine ⟨?_, distinct, fun m mem => ?_, fun m g mem => ?_, fun m g jobs p head parsed => ?_⟩
  · have gens : (rest.map fun m => Job.manifest m
        (u.reject n .keyRevoked none u.slots[n].keyIndex []).slots[m].gen) =
        rest.map fun m => Job.manifest m u.slots[m].gen :=
      List.map_congr_left fun m mem => by rw [other m (named m mem)]
    rw [State.reject_jobs live, h.order, gens, List.map_cons, List.cons_append, List.filter_cons,
      if_neg (by simp), List.filter_eq_self]
    intro j mem
    rw [bne_iff_ne]
    rintro rfl
    rcases List.mem_append.1 mem with mem | mem
    · obtain ⟨m, inRest, same⟩ := List.mem_map.1 mem
      exact named m inRest (Job.manifest.inj same).1
    · exact behind n _ mem rfl
  · rw [other m (named m mem)]
    simp only [keys]
    exact h.revoked m (List.mem_cons_of_mem n mem)
  · obtain ⟨out, facts⟩ := h.live m g mem
    rw [other m (behind m g mem)]
    exact ⟨fun inRest => out (List.mem_cons_of_mem n inRest), facts⟩
  · rw [other m (behind m g (by rw [head]; exact List.mem_cons_self))] at parsed
    rw [keys]
    exact h.first m g jobs p head parsed

theorem endAtStart_named {later : List Job} {named : List (Fin 12)} : ∀ {u : State} {fuel : Nat},
    u.EndAtStart u.jobs named later → named.length ≤ fuel →
      endAtStart fuel u = u.revokeNamed named ∧
        (u.revokeNamed named).EndAtStart (u.revokeNamed named).jobs [] later := by
  induction named with
  | nil =>
    intro u fuel h _
    refine ⟨?_, h⟩
    have jobs : u.jobs = later := h.order
    cases fuel with
    | zero => rfl
    | succ fuel =>
      rw [endAtStart]
      split
      next n g rest head =>
        refine if_neg ?_
        obtain ⟨-, -, -, some_⟩ := h.live n g (by rw [← jobs, head]; exact List.mem_cons_self)
        obtain ⟨p, parsed⟩ := Option.ne_none_iff_exists'.1 some_
        rw [State.slotKeyRevoked_eq_false parsed (h.first n g rest p (jobs.symm.trans head) parsed)]
        exact nofun
      · rfl
  | cons n rest ih =>
    intro u fuel h enough
    obtain ⟨fuel, rfl⟩ : ∃ m, fuel = m + 1 := ⟨fuel - 1, by simp at enough; omega⟩
    obtain ⟨live, p, parsed, key⟩ := h.revoked n List.mem_cons_self
    have head : u.jobs = .manifest n u.slots[n].gen ::
        ((rest.map fun m => .manifest m u.slots[m].gen) ++ later) := h.order
    obtain ⟨goesOn, left⟩ := ih (fuel := fuel) h.step (by simpa using enough)
    rw [State.revokeNamed_cons]
    refine ⟨?_, left⟩
    rw [← goesOn, endAtStart, head]
    dsimp only
    rw [if_pos (State.slotKeyRevoked_of parsed key)]
    refine congrArg (endAtStart fuel) ?_
    exact State.jobReport_popped head live

/-- What the rejections of these slots leave. -/
theorem State.revokeNamed_slots {named : List (Fin 12)} : ∀ {u : State}, named.Nodup →
    (∀ n ∈ named, u.slots[n].live = true) → ∀ j : Fin 12, (u.revokeNamed named).slots[j] =
      if j ∈ named then u.slots[j].rejectedFor .keyRevoked else u.slots[j] := by
  induction named with
  | nil => exact fun _ _ j => (if_neg (by simp)).symm
  | cons n rest ih =>
    intro u distinct live j
    obtain ⟨new, distinct⟩ := List.nodup_cons.1 distinct
    have first := live n List.mem_cons_self
    have slot (m : Fin 12) : (u.reject n .keyRevoked none u.slots[n].keyIndex []).slots[m] =
        if m = n then u.slots[n].rejectedFor .keyRevoked else u.slots[m] := by
      rw [State.reject_slots first, put_fin]
    rw [State.revokeNamed_cons, ih distinct (fun m mem => by
      rw [slot, if_neg fun (mn : m = n) => new (mn ▸ mem)]
      exact live m (List.mem_cons_of_mem n mem)), slot]
    by_cases jn : j = n
    · subst jn
      rw [if_neg new, if_pos rfl, if_pos List.mem_cons_self]
    · simp only [List.mem_cons, jn, false_or, if_false]

theorem State.Amid.revokeNamed {s : State} {own : Half} {named : List (Fin 12)} : ∀ {u : State},
    s.Amid u own → named.Nodup → (∀ n ∈ named, u.slots[n].live = true) →
      s.Amid (u.revokeNamed named) own := by
  induction named with
  | nil => exact fun h _ _ => h
  | cons n rest ih =>
    intro u h distinct live
    obtain ⟨new, distinct⟩ := List.nodup_cons.1 distinct
    have first := live n List.mem_cons_self
    refine ih (h.reject first ..) distinct fun m mem => ?_
    rw [State.reject_slots first, put_fin_ne _ _ fun (mn : m = n) => new (mn ▸ mem)]
    exact live m (List.mem_cons_of_mem n mem)

theorem State.revokeNamed_faults {named : List (Fin 12)} : ∀ {u : State}, named.Nodup →
    (∀ n ∈ named, u.slots[n].live = true) → (u.revokeNamed named).faults =
      named.foldl (fun v n => storeFault v (u.rejection n .keyRevoked none u.slots[n].keyIndex []))
        u.faults := by
  induction named with
  | nil => exact fun _ _ => rfl
  | cons n rest ih =>
    intro u distinct live
    obtain ⟨new, distinct⟩ := List.nodup_cons.1 distinct
    have first := live n List.mem_cons_self
    have other (m : Fin 12) (mem : m ∈ rest) :
        (u.reject n .keyRevoked none u.slots[n].keyIndex []).slots[m] = u.slots[m] := by
      rw [State.reject_slots first, put_fin_ne _ _ fun (mn : m = n) => new (mn ▸ mem)]
    rw [State.revokeNamed_cons, ih distinct (fun m mem => by
      rw [other m mem]
      exact live m (List.mem_cons_of_mem n mem)), State.reject_faults, List.foldl_cons]
    refine List.foldl_ext _ _ _ fun v m mem => ?_
    rw [State.rejection, State.rejection, other m mem, State.reject_bootClock]

theorem State.revokeNamed_tables {named : List (Fin 12)} : ∀ u : State,
    (u.revokeNamed named).classes = u.classes ∧ (u.revokeNamed named).lines = u.lines ∧
      (u.revokeNamed named).mode = u.mode ∧ (u.revokeNamed named).verdict = u.verdict ∧
      (u.revokeNamed named).window = u.window ∧ (u.revokeNamed named).failedCount = u.failedCount := by
  induction named with
  | nil => exact fun _ => ⟨rfl, rfl, rfl, rfl, rfl, rfl⟩
  | cons n rest ih =>
    intro u
    obtain ⟨classes, lines, mode, verdict, window, count⟩ :=
      ih (u.reject n .keyRevoked none u.slots[n].keyIndex [])
    rw [State.revokeNamed_cons]
    exact ⟨classes.trans (State.reject_classes ..), lines.trans (State.reject_lines ..),
      mode.trans (State.reject_mode ..), verdict.trans (State.reject_verdict ..),
      window.trans (State.reject_window ..), count.trans (State.reject_failedCount ..)⟩

end Sys2Proof.Machine
end

section
/-! SUPPORT. The event of a job's end in which other jobs end at their start, whole (R60, R62, R65, R106, R112). -/

namespace Sys2Proof.Machine

/-- A part taken to have found other jobs waiting and other faults stored. -/
theorem State.Amid.withJobs {s u : State} {own : Half} (h : s.Amid u own) {jobs : List Job}
    (v : Vector FaultRecord 4) (left : u.jobs = ({ s with jobs := jobs, faults := v } : State).jobsLeft u) :
    ({ s with jobs := jobs, faults := v } : State).Amid u own := by
  refine ⟨?_, h.live, h.ctxs, h.chunks, left, h.links⟩
  obtain ⟨_, _, _, _, _, _, _, _, _, _, _, _, _, rfl⟩ := h.units
  exact ⟨_, _, _, _, _, _, _, _, _, _, _, _, _, rfl⟩

/-- The slots that a report and the jobs behind it reject. -/
theorem State.Names.revokeNamed {s u : State} {also : Fin 12 → Prop} {reason : FaultCode}
    (h : s.Names u also fun _ => reason) {named : List (Fin 12)} (distinct : named.Nodup)
    (live : ∀ n ∈ named, u.slots[n].live = true) :
    s.Names (u.revokeNamed named) (fun n => n ∈ named ∨ also n)
      fun n => if n ∈ named then .keyRevoked else reason := by
  have other (n : Fin 12) (mem : n ∈ named) : ¬also n := ((h.live_iff n).1 (live n mem)).2
  refine ⟨fun j hj => ?_, fun j => ?_, ?_⟩
  · exact hj.elim (fun mem => ((h.live_iff j).1 (live j mem)).1) (h.live j)
  · rw [State.revokeNamed_slots distinct live]
    by_cases mem : j ∈ named
    · rw [if_pos mem, if_pos mem, (h.slots j).2 (other j mem)]
      exact ⟨fun _ => rfl, fun no => absurd (.inl mem) no⟩
    · rw [if_neg mem, if_neg mem]
      exact ⟨fun n => (h.slots j).1 (n.resolve_left mem), fun no => (h.slots j).2 fun a => no (.inr a)⟩
  · obtain ⟨classes, lines, mode, verdict, window, count⟩ := u.revokeNamed_tables (named := named)
    obtain ⟨c, l, m, v, w, f⟩ := h.tables
    exact ⟨classes.trans c, lines.trans l, mode.trans m, verdict.trans v, window.trans w, count.trans f⟩

/-- Slots that a live one's rejection does not make VERIFIED: what is won is won by the report. -/
theorem State.wins_revokeNamed {before u : State} {named : List (Fin 12)} (distinct : named.Nodup)
    (live : ∀ n ∈ named, u.slots[n].live = true) :
    before.wins (u.revokeNamed named) = before.wins u := by
  have state (j : Fin 12) : ((u.revokeNamed named).slots[j].state == .verified) =
      (u.slots[j].state == .verified) := by
    rw [State.revokeNamed_slots distinct live]
    split
    next mem =>
      have alive := live j mem
      have off : (u.slots[j].state == .verified) = false := by
        rw [beq_eq_false_iff_ne]
        intro verified
        rw [Slot.live, verified] at alive
        cases alive
      rw [off]
      rfl
    · rfl
  rw [State.wins, State.wins]
  simp only [state]

/-- The jobs that are left when no slot of theirs was rejected, or when the part has settled (R65, R121). -/
theorem State.EndAtStart.headStarts {b u v : State} {later : List Job} (before : State)
    (waits : u.EndAtStart u.jobs [] later) (ends : v = before.conclude u) (fuses : v.fuses = u.fuses)
    (live : ∀ j : Fin 12, u.slots[j].live = true → u.slots[j] = b.slots[j])
    (jobs : v.jobs = b.jobsLeft v) (found : b.jobs = later) (left : u.jobs = b.jobsLeft u) : v.HeadStarts := by
  intro n g rest head
  have mem : Job.manifest n g ∈ b.jobsLeft v := by
    rw [← jobs, head]
    exact List.mem_cons_self
  obtain ⟨waiting, kept⟩ := List.mem_filter.1 mem
  rw [found] at waiting
  obtain ⟨-, alive, gen, some_⟩ := waits.live n g waiting
  obtain ⟨p, parsed⟩ := Option.ne_none_iff_exists'.1 some_
  have slot (j : Fin 12) := before.conclude_slots u j
  rw [← ends] at slot
  by_cases settled : u.mode = .verify ∧ v.mode = .settled
  · have gone : b.gone v n = true := by
      rw [State.gone_iff, ← live n alive, slot n, if_pos ⟨alive, settled⟩]
      exact ⟨alive, rfl⟩
    have same : g = b.slots[n].gen := by rw [← live n alive, gen]
    simp only [gone, same, beq_self_eq_true, Bool.and_self, Bool.not_true] at kept
    cases kept
  · have same (j : Fin 12) : v.slots[j] = u.slots[j] := (slot j).trans (if_neg fun h => settled h.2)
    have all : b.jobsLeft v = later := by
      have congr := (State.left_congr (s := b) (t := v) (u := u) fun j => by
        rw [State.gone, State.gone, same]).2.2
      rw [congr, ← left]
      exact waits.order
    refine ⟨p, by rw [same]; exact parsed, ?_⟩
    rw [State.keyState_congr fuses]
    exact waits.first n g rest p (by rw [← all, ← jobs, head]) parsed

/-- The end of a job, when other jobs end at their start: what its event leaves. -/
theorem State.startNext_goesOn {s first u : State} {own : Half} {named : List (Fin 12)} {later : List Job}
    {also : Fin 12 → Prop} {reason : FaultCode} {won : Prop}
    (amid : ({ first with active := none } : State).Amid u own) (faults : u.faults = first.faults)
    (names : first.Names u also fun _ => reason) (other : reason ≠ .settledOut)
    (waits : u.EndAtStart u.jobs named later)
    (found : ∀ (j : Fin 12) (c : Fin 8), first.classes[c].state = .pending →
      ((s.slots[j].live = true ∧ s.slots[j].cls = some c) ↔
        (first.slots[j].live = true ∧ first.slots[j].cls = some c)))
    (wins : s.wins u = true ↔ won) (ownBit : won → own.getLsbD 1 = true)
    {v : Vector FaultRecord 4}
    (stored : v = named.foldl (fun w n => storeFault w
      (first.rejection n .keyRevoked none first.slots[n].keyIndex [])) first.faults)
    {t : State} (ends : (s.startNext u).commit = t) :
    first.RejectsFor t (fun n => n ∈ named ∨ also n) (fun n => if n ∈ named then .keyRevoked else reason)
        won ∧
      State.UnitGoesOn { first with active := none, jobs := later, faults := v } t own
        [(.settledOut, none)] ∧
      t.chunkQueue = first.chunksLeft t ∧ t.core = first.core := by
  have live (n : Fin 12) (mem : n ∈ named) : u.slots[n].live = true := (waits.revoked n mem).1
  have idle : u.active = none := by
    obtain ⟨_, _, _, _, _, _, _, _, _, _, _, _, _, rfl⟩ := amid.units
    rfl
  have enough : named.length ≤ u.jobs.length := by
    rw [waits.order, List.length_append, List.length_map]
    omega
  obtain ⟨runs, left⟩ := endAtStart_named (fuel := u.jobs.length) waits enough
  obtain ⟨u₁, hu₁⟩ : ∃ u₁, u₁ = u.revokeNamed named := ⟨_, rfl⟩
  obtain ⟨b, hb⟩ : ∃ b : State, b = { first with active := none, jobs := later, faults := v } := ⟨_, rfl⟩
  have names₁ := hu₁ ▸ names.revokeNamed waits.distinct live
  have amid₁ : ({ first with active := none } : State).Amid u₁ own :=
    hu₁ ▸ amid.revokeNamed waits.distinct live
  rw [← hu₁] at left runs
  have jobs₁ : u₁.jobs = later := left.order
  have bslots : b.slots = first.slots := by rw [hb]
  have none₁ : b.jobsLeft u₁ = later := by
    have waiting : b.jobs = later := by rw [hb]
    rw [State.jobsLeft, waiting, List.filter_eq_self]
    intro j mem
    cases j with
    | revoke l target r sig => rfl
    | manifest n g =>
      have alive := (left.live n g mem).2.1
      have kept : b.gone u₁ n = false := by
        rw [State.gone, Bool.and_eq_false_iff, beq_eq_false_iff_ne]
        refine .inr fun rejected => ?_
        rw [Slot.live, rejected] at alive
        cases alive
      simp only [kept, Bool.false_and, Bool.not_false]
  have amidB : b.Amid u₁ own := hb ▸ amid₁.withJobs v (hb ▸ jobs₁.trans none₁.symm)
  have namesB : b.Names u₁ (fun n => n ∈ named ∨ also n)
      fun n => if n ∈ named then .keyRevoked else reason := by
    rw [hb]
    exact ⟨names₁.live, names₁.slots, names₁.tables⟩
  have storedB : u₁.faults = b.faults := by
    rw [hu₁, State.revokeNamed_faults waits.distinct live, faults, hb, stored]
    refine List.foldl_ext _ _ _ fun w n mem => ?_
    rw [State.rejection, State.rejection, amid.units.bootClock, amid.live n (live n mem)]
  have fresh (n : Fin 12) (h : n ∈ named ∨ also n) :
      (if n ∈ named then FaultCode.keyRevoked else reason) ≠ .settledOut := by
    split
    · exact nofun
    · exact other
  have second := namesB.concludes amidB s fresh
  obtain ⟨w, hw⟩ : ∃ w, w = s.conclude u₁ := ⟨_, rfl⟩
  rw [← hw] at second
  have starts : w.HeadStarts := left.headStarts s hw
    (second.amid.units.fuses.trans amidB.units.fuses.symm) amidB.live second.amid.jobs (by rw [hb]) amidB.jobs
  have inputs (n : Fin 12) : w.slots[n].parsed = b.slots[n].parsed ∧
      w.slots[n].buffer = b.slots[n].buffer := by
    have kept := s.conclude_inputs u₁ n
    rw [← hw] at kept
    refine ⟨kept.1.trans ?_, kept.2.trans ?_⟩
    all_goals
      by_cases h : n ∈ named ∨ also n
      · rw [(namesB.slots n).1 h]
        rfl
      · rw [(namesB.slots n).2 h]
  have ended : u.endStarts = u₁ := runs
  rw [State.startNext_idle idle, ended, ← hw] at ends
  obtain ⟨goesOn, tables, posts, chunks, core⟩ := second.amid.unitGoesOn (second.foldl storedB)
    (by rw [hb]) inputs starts ends
  have departs (c : Fin 8) (pending : first.classes[c].state = .pending) :
      (∃ i : Fin 12, s.slots[i].live = true ∧ s.slots[i].cls = some c ∧ u₁.slots[i].live = false) ↔
        ∃ j : Fin 12, (j ∈ named ∨ also j) ∧ first.slots[j].cls = some c := by
    rw [← names₁.departs c]
    refine exists_congr fun j => ?_
    rw [← and_assoc, ← and_assoc, found j c pending]
  have rejects := names₁.rejectsFor (before := s) (t := t) departs
    (by rw [hu₁, State.wins_revokeNamed waits.distinct live]; exact wins) ownBit (hw ▸ tables)
    (by rw [hb] at posts; exact posts)
  refine ⟨rejects, hb ▸ goesOn, chunks.trans ?_, core.trans (by rw [hb])⟩
  rw [hb]
  rfl

end Sys2Proof.Machine
end

section
/-! SUPPORT. What the event of a job's end finds when other jobs end at their start (R60, R62, R65). -/

namespace Sys2Proof.Machine

/-- The jobs that end at their start are the same ones where their slots are as they were. -/
theorem State.EndAtStart.of_same {s u : State} {jobs : List Job} {named : List (Fin 12)} {later : List Job}
    (h : s.EndAtStart jobs named later) (fuses : u.fuses = s.fuses)
    (slots : ∀ n : Fin 12, Job.manifest n s.slots[n].gen ∈ jobs → u.slots[n] = s.slots[n]) :
    u.EndAtStart jobs named later ∧ ∀ n ∈ named, u.slots[n] = s.slots[n] := by
  have keys (k : Fin 10) : u.keyState k = s.keyState k := State.keyState_congr fuses k
  have ended (n : Fin 12) (mem : n ∈ named) : u.slots[n] = s.slots[n] :=
    slots n (by rw [h.order]; exact List.mem_append_left _ (List.mem_map_of_mem mem))
  have waiting (n : Fin 12) (g : Byte) (mem : Job.manifest n g ∈ later) : u.slots[n] = s.slots[n] :=
    slots n (by rw [(h.live n g mem).2.2.1, h.order]; exact List.mem_append_right _ mem)
  refine ⟨⟨?_, h.distinct, fun n mem => ?_, fun n g mem => ?_, fun n g rest p head parsed => ?_⟩, ended⟩
  · refine h.order.trans (congrArg (· ++ later) (List.map_congr_left fun n mem => ?_))
    rw [ended n mem]
  · rw [ended n mem]
    simp only [keys]
    exact h.revoked n mem
  · rw [waiting n g mem]
    exact h.live n g mem
  · rw [waiting n g (by rw [head]; exact List.mem_cons_self)] at parsed
    rw [keys]
    exact h.first n g rest p head parsed

/-- The part as its report leaves it names no slot where the report rejects none. -/
theorem State.names_none {s u : State} (slots : u.slots = s.slots)
    (tables : u.classes = s.classes ∧ u.lines = s.lines ∧ u.mode = s.mode ∧ u.verdict = s.verdict ∧
      u.window = s.window ∧ u.failedCount = s.failedCount) (reason : Fin 12 → FaultCode) :
    s.Names u (fun _ => False) reason :=
  ⟨fun _ => False.elim, fun j => ⟨False.elim, fun _ => by rw [slots]⟩, tables⟩

/-- CLASS_CHANGE, once it is set, is set (R161). -/
theorem or_classChange {p : Prop} [Decidable p] {v : Half} (set : v.getLsbD 1 = true) :
    v ||| (if p then 0 else 0x002) = v := by
  have alone : ∀ n : Fin 16, n ≠ 1 → (2 : Half)[n] = false := by decide
  split
  · exact BitVec.or_zero
  · ext n hn
    rw [BitVec.getElem_or]
    by_cases one : n = 1
    · subst one
      rw [show v[1] = true from set]
      rfl
    · rw [show (2 : Half)[n] = false from alone ⟨n, hn⟩ fun h => one (congrArg Fin.val h), Bool.or_false]

/-- A part whose event began with its class table or its slots already changed. -/
theorem State.Amid.rebased {s u : State} {own : Half} (h : s.Amid u own) {slots : Vector Slot 12}
    {classes : Vector ClassRec 8} {faults : Vector FaultRecord 4} (posts : own.getLsbD 1 = true)
    (gone : ∀ j : Fin 12, (slots[j].live && u.slots[j].state == .rejected) = s.gone u j)
    (live : ∀ j : Fin 12, u.slots[j].live = true → u.slots[j] = slots[j])
    (gens : ∀ j : Fin 12, slots[j].gen = s.slots[j].gen) :
    ({ s with slots := slots, classes := classes, faults := faults } : State).Amid u own := by
  obtain ⟨b, hb⟩ : ∃ b : State, b = { s with slots := slots, classes := classes, faults := faults } :=
    ⟨_, rfl⟩
  have bslots : b.slots = slots := by rw [hb]
  have bgone (j : Fin 12) : b.gone u j = s.gone u j := by
    rw [← gone j, State.gone, bslots]
  have bgens (j : Fin 12) : b.slots[j].gen = s.slots[j].gen := by rw [bslots]; exact gens j
  have posted : b.posted u own = s.posted u own := by
    have lines : b.lines = s.lines := by rw [hb]
    have mode : b.mode = s.mode := by rw [hb]
    have set : (own ||| if ∃ i, s.gone u i = true then 0x081 else 0).getLsbD 1 = true := by
      rw [BitVec.getLsbD_or, posts]
      rfl
    simp only [State.posted, bgone, lines, mode, or_classChange set]
  rw [← hb]
  refine ⟨?_, fun j alive => by rw [bslots]; exact live j alive, ?_, ?_, ?_, ?_⟩
  · obtain ⟨_, _, _, _, _, _, _, _, _, _, _, _, _, rfl⟩ := h.units
    rw [hb]
    exact ⟨_, _, _, _, _, _, _, _, _, _, _, _, _, rfl⟩
  · have ctxs : b.ctxs = s.ctxs := by rw [hb]
    rw [h.ctxs, State.ctxsLeft, State.ctxsLeft, ctxs]
    simp only [bgone]
  · have chunks : b.chunkQueue = s.chunkQueue := by rw [hb]
    rw [h.chunks, State.chunksLeft, State.chunksLeft, chunks]
    simp only [bgone, bgens]
  · have jobs : b.jobs = s.jobs := by rw [hb]
    rw [h.jobs, State.jobsLeft, State.jobsLeft, jobs]
    simp only [bgone, bgens]
  · rw [posted, hb]
    exact h.links

/-- The fault records of the slots whose jobs end at their start, in job order (R62). -/
def State.revokedFaults (s : State) (named : List (Fin 12)) (v : Vector FaultRecord 4) :
    Vector FaultRecord 4 :=
  named.foldl (fun w n => storeFault w
    { stamp := s.bootClock, code := .keyRevoked, link := s.slots[n].owner, slot := some n,
      cls := s.slots[n].cls, seg := none, key := s.slots[n].parsed.map fun p => p.key,
      detail := List.replicate 8 0 }) v

theorem State.revokedFaults_eq {s first : State} {named : List (Fin 12)}
    (clock : first.bootClock = s.bootClock) (slots : ∀ n ∈ named, first.slots[n] = s.slots[n])
    (v : Vector FaultRecord 4) : s.revokedFaults named v = named.foldl (fun w n => storeFault w
      (first.rejection n .keyRevoked none first.slots[n].keyIndex [])) v := by
  refine List.foldl_ext _ _ _ fun w n mem => ?_
  rw [State.rejection, clock, slots n mem]
  rfl

/-- What a job's end leaves when other jobs end at their start behind it: the part `s` before the event, and
as the report alone leaves it, `first`. -/
def State.EndsBehind (s first t : State) (named : List (Fin 12)) (later : List Job) (also : Fin 12 → Prop)
    (reason : FaultCode) (won : Prop) (own : Half) : Prop :=
  first.RejectsFor t (fun n => n ∈ named ∨ also n) (fun n => if n ∈ named then .keyRevoked else reason)
      won ∧
    State.UnitGoesOn { first with active := none, jobs := later, faults := s.revokedFaults named first.faults }
      t own [(.settledOut, none)] ∧
    t.chunkQueue = first.chunksLeft t ∧ t.core = s.core

/-- A report leaves the inputs of the jobs that wait, the units and the boot clock as they were. -/
structure State.Reports (s first u : State) (own : Half) (also : Fin 12 → Prop) (reason : FaultCode) :
    Prop where
  amid   : ({ first with active := none } : State).Amid u own
  faults : u.faults = first.faults
  names  : first.Names u also fun _ => reason
  other  : reason ≠ .settledOut
  keys   : u.fuses = s.fuses
  slots  : ∀ n : Fin 12, Job.manifest n s.slots[n].gen ∈ u.jobs →
    u.slots[n] = s.slots[n] ∧ first.slots[n] = s.slots[n]
  clock  : first.bootClock = s.bootClock
  core   : first.core = s.core

section
variable {s first u : State} {own : Half} {also : Fin 12 → Prop} {reason : FaultCode}
  (h : s.Reports first u own also reason)
include h

theorem State.Reports.endsBehind {named : List (Fin 12)} {later : List Job} {won : Prop}
    (found : ∀ (j : Fin 12) (c : Fin 8), first.classes[c].state = .pending →
      ((s.slots[j].live = true ∧ s.slots[j].cls = some c) ↔
        (first.slots[j].live = true ∧ first.slots[j].cls = some c)))
    (wins : s.wins u = true ↔ won) (ownBit : won → own.getLsbD 1 = true)
    (waits : s.EndAtStart u.jobs named later) :
    s.EndsBehind first (s.startNext u).commit named later also reason won own := by
  obtain ⟨here, -⟩ := waits.of_same h.keys fun n mem => (h.slots n mem).1
  have kept (n : Fin 12) (mem : n ∈ named) : first.slots[n] = s.slots[n] :=
    (h.slots n (by rw [waits.order]; exact List.mem_append_left _ (List.mem_map_of_mem mem))).2
  obtain ⟨rejects, goesOn, chunks, core⟩ := State.startNext_goesOn h.amid h.faults h.names h.other here found
    wins ownBit (State.revokedFaults_eq h.clock kept first.faults) rfl
  exact ⟨rejects, goesOn, chunks, core.trans h.core⟩

/-- Behind a report that wins no class the event finds the slots as the report did. -/
theorem State.Reports.endsBehind_of_same {named : List (Fin 12)} {later : List Job}
    (same : ∀ j : Fin 12, s.slots[j].live = first.slots[j].live ∧ s.slots[j].cls = first.slots[j].cls)
    (waits : s.EndAtStart u.jobs named later) :
    s.EndsBehind first (s.startNext u).commit named later also reason False own :=
  h.endsBehind (fun j c _ => by rw [(same j).1, (same j).2])
    ⟨fun won => absurd won (Bool.eq_false_iff.1 (h.names.found same).1), False.elim⟩ False.elim waits

end

/-- A report that changes no slot but one with no job waiting, and rejects none. -/
theorem State.Reports.still {s first u : State} {own : Half}
    (posted : u = ({ first with active := none } : State).raised own)
    (keys : first.fuses = s.fuses) (clock : first.bootClock = s.bootClock) (core : first.core = s.core)
    (slots : ∀ n : Fin 12, Job.manifest n s.slots[n].gen ∈ u.jobs → first.slots[n] = s.slots[n]) :
    s.Reports first u own (fun _ => False) .keyRevoked := by
  subst posted
  have names := State.names_none (s := first) (u := State.raised { first with active := none } own) rfl
    ⟨rfl, rfl, rfl, rfl, rfl, rfl⟩ fun _ => .keyRevoked
  exact ⟨.raised_self _ _, rfl, names, nofun, keys,
    fun n mem => ⟨slots n mem, slots n mem⟩, clock, core⟩

end Sys2Proof.Machine
end

section
/-! SUPPORT. What the reports of a manifest job bring, before other jobs end at their start (R19, R20, R64). -/

namespace Sys2Proof.Machine

/-- A slot that enters VERIFIED wins its class (R19). -/
theorem State.wins_of {s u : State} {i : Fin 12} {c : Fin 8} (live : s.slots[i].live = true)
    (cls : s.slots[i].cls = some c) (verified : u.slots[i].state = .verified) : s.wins u = true := by
  rw [State.wins, List.any_eq_true]
  refine ⟨i, List.mem_finRange i, ?_⟩
  rw [live, cls, verified]
  rfl

section
variable {s : State} {i : Fin 12} (live : s.slots[i].live = true)
  (unqueued : Job.manifest i s.slots[i].gen ∉ s.jobs)
include live unqueued

theorem State.job_apart {n : Fin 12} {jobs : List Job} (left : ∀ j ∈ jobs, j ∈ s.jobs)
    (mem : Job.manifest n s.slots[n].gen ∈ jobs) : n ≠ i := by
  rintro rfl
  exact unqueued (left _ mem)

/-- A signature that does not verify (R20). -/
theorem State.Reports.failed {k : Fin 10} :
    let u := (State.setSlot { s with active := none } i { s.slots[i] with sig := .failed }).reject i
      .badSignature none (some k) []
    s.Reports
      { s with
        slots := put s.slots i { s.slots[i] with sig := .failed }
        faults := storeFault s.faults
          { stamp := s.bootClock, code := .badSignature, link := s.slots[i].owner, slot := some i,
            cls := s.slots[i].cls, seg := none, key := some k, detail := List.replicate 8 0 } }
      u 0 (fun n => n = i) .badSignature ∧ u.jobs = s.jobs := by
  intro u
  obtain ⟨b, hb⟩ : ∃ b, b = State.setSlot { s with active := none } i { s.slots[i] with sig := .failed } :=
    ⟨_, rfl⟩
  have slot (j : Fin 12) : b.slots[j] = if j = i then { s.slots[i] with sig := .failed } else s.slots[j] := by
    rw [hb]
    exact put_fin ..
  have alive : b.slots[i].live = true := by
    rw [slot, if_pos rfl]
    exact live
  have here : u = b.reject i .badSignature none (some k) [] := by rw [hb]
  clear_value u
  have names : b.Names u (fun j => j = i) fun _ => .badSignature := here ▸ b.names_reject alive ..
  have amid : b.Amid u 0 := here ▸ (State.Amid.refl b).reject alive ..
  have jobs : u.jobs = s.jobs := by
    have waiting : b.jobs = s.jobs := by rw [hb]; rfl
    rw [here, State.reject_jobs alive, waiting, List.filter_eq_self, slot, if_pos rfl]
    intro j mem
    rw [bne_iff_ne]
    rintro rfl
    exact unqueued mem
  set v := storeFault s.faults
    { stamp := s.bootClock, code := .badSignature, link := s.slots[i].owner, slot := some i,
      cls := s.slots[i].cls, seg := none, key := some k, detail := List.replicate 8 0 } with hv
  have stored : u.faults = v := by
    rw [here, State.reject_faults, State.rejection, slot, if_pos rfl, hb]
    rfl
  have base : ({ s with active := none, slots := put s.slots i { s.slots[i] with sig := .failed }, faults := v } :
      State) = { b with faults := v } := by
    rw [hb]
    rfl
  refine ⟨⟨base ▸ amid.withFaults v, stored, ?_, nofun, ?_, fun n mem => ?_, rfl, rfl⟩, jobs⟩
  · have named := names.withFaults v
    rw [← base] at named
    exact ⟨named.live, named.slots, named.tables⟩
  · rw [here, State.reject_fuses, hb]
    rfl
  · have apart : n ≠ i := State.job_apart live unqueued (fun j mem => by rw [← jobs]; exact mem) mem
    rw [(names.slots n).2 apart, slot, if_neg apart]
    exact ⟨rfl, put_fin_ne _ _ apart⟩

/-- A slot that its signature makes VERIFIED (R19, R110). -/
theorem State.Reports.verified {c : Fin 8} (cls : s.slots[i].cls = some c) :
    let late (n : Fin 12) : Bool := n != i && s.slots[n].live && s.slots[n].cls == some c
    let u := ({ s with active := none } : State).verifySlot i
    s.Reports
      { s with
        slots := put s.slots i { s.slots[i] with state := .verified, sig := .passed }
        classes := put s.classes c { s.classes[c] with state := .verified, verifiedSlot := some i }
        faults := ((List.finRange 12).filter late).foldl (fun v n => storeFault v
          { stamp := s.bootClock, code := .classDoneLate, link := s.slots[n].owner,
            slot := some n, cls := some c, seg := none, key := none,
            detail := List.replicate 8 0 }) s.faults }
      u 0x003 (fun n => late n = true) .classDoneLate ∧
    u.jobs = s.jobs.filter fun j =>
      match j with
      | .manifest n g => !(late n && g == s.slots[n].gen)
      | .revoke .. => true := by
  intro late u
  obtain ⟨b, hb⟩ : ∃ b : State, b = { s with active := none } := ⟨_, rfl⟩
  have bslots : b.slots = s.slots := by rw [hb]
  have self : b.setSlot i b.slots[i] = b := by
    have kept : put b.slots i b.slots[i] = b.slots := put_self _ _
    rw [State.setSlot, kept]
  have bcls : b.slots[i].cls = some c := by rw [bslots]; exact cls
  have slot := State.verifySlot_others (b := b) (i := i) (y := b.slots[i]) bcls
  obtain ⟨u₀, ufaults, first⟩ := State.verifySlot_orders (b := b) (i := i) (y := b.slots[i]) bcls
  have here : u = b.verifySlot i := by rw [hb]
  rw [self, ← here] at slot first
  have lateIff (n : Fin 12) : late n = true ↔ n ≠ i ∧ s.slots[n].live = true ∧ s.slots[n].cls = some c := by
    simp only [late, Bool.and_eq_true, bne_iff_ne, beq_iff_eq, and_assoc]
  have after (n : Fin 12) : u.slots[n] = if n = i then { s.slots[i] with state := .verified, sig := .passed }
      else if late n = true then s.slots[n].rejectedFor .classDoneLate else s.slots[n] := by
    rw [slot n, bslots]
    by_cases ni : n = i
    · rw [if_pos ni, if_pos ni]
    · simp only [lateIff, ne_eq, ni, not_false_eq_true, true_and]
  have tables : u.classes = put s.classes c { s.classes[c] with state := .verified, verifiedSlot := some i } ∧
      u.lines = s.lines ∧ u.mode = s.mode ∧ u.verdict = s.verdict ∧ u.window = s.window ∧
      u.failedCount = s.failedCount := by
    obtain ⟨verdict, count⟩ := b.verifySlot_count i
    rw [← here] at verdict count
    refine ⟨?_, ?_, ?_, ?_, ?_, ?_⟩
    · rw [here, State.verifySlot_classes bcls, hb]
    · rw [here, State.verifySlot_lines, hb]
    · rw [here, State.verifySlot_mode, hb]
    · rw [verdict, hb]
    · rw [here, State.verifySlot_window, hb]
    · rw [count, hb]
  clear_value u
  have gone (n : Fin 12) : b.gone u n = late n := by
    have rejected : u.slots[n].state = .rejected ∧ s.slots[n].live = true ↔ late n = true := by
      rw [after]
      by_cases ni : n = i
      · rw [if_pos ni]
        exact iff_of_false (fun h => nomatch h.1) fun h => ((lateIff n).1 h).1 ni
      · rw [if_neg ni]
        by_cases named : late n = true
        · rw [if_pos named]
          exact iff_of_true ⟨rfl, ((lateIff n).1 named).2.1⟩ named
        · rw [if_neg named]
          refine iff_of_false (fun h => ?_) named
          obtain ⟨rejected, alive⟩ := h
          rw [Slot.live, rejected] at alive
          cases alive
    rw [Bool.eq_iff_iff, State.gone_iff, bslots, and_comm, rejected]
  have jobs : u.jobs = s.jobs.filter fun j =>
      match j with
      | .manifest n g => !(late n && g == s.slots[n].gen)
      | .revoke .. => true := by
    have waiting : b.jobs = s.jobs := by rw [hb]
    rw [first.amid.jobs, State.jobsLeft, waiting]
    refine List.filter_congr fun j _ => ?_
    cases j with
    | revoke l t r g => rfl
    | manifest n g => simp only [gone, bslots]
  have placed (n : Fin 12) : (put s.slots i { s.slots[i] with state := .verified, sig := .passed })[n] =
      if n = i then { s.slots[i] with state := .verified, sig := .passed } else s.slots[n] := put_fin ..
  have left (n : Fin 12) (alive : u.slots[n].live = true) : n ≠ i ∧ u.slots[n] = s.slots[n] := by
    rw [after] at alive ⊢
    split at alive
    · cases alive
    next ni =>
      split at alive
      · cases alive
      next other => exact ⟨ni, by rw [if_neg ni, if_neg other]⟩
  refine ⟨⟨?_, ?_, ⟨fun n named => ?_, fun n => ?_, tables⟩, nofun, ?_, fun n mem => ?_, rfl, rfl⟩, jobs⟩
  · have amid : ({ s with active := none } : State).Amid u 0x003 := hb ▸ first.amid
    refine amid.rebased (by decide) (fun n => ?_) (fun n alive => ?_) fun n => ?_
    · have same : State.gone { s with active := none } u n = late n := hb ▸ gone n
      rw [same, placed]
      by_cases ni : n = i
      · rw [if_pos ni, Bool.eq_iff_iff, lateIff]
        exact iff_of_false nofun fun h => h.1 ni
      · rw [if_neg ni, ← gone n, State.gone, bslots]
    · obtain ⟨ni, same⟩ := left n alive
      rw [same, placed, if_neg ni]
    · rw [placed]
      split
      next ni => subst ni; rfl
      · rfl
  · rw [first.faults, ufaults, State.recorded_eq (p := late) _ fun n => ?_]
    · have stored : b.faults = s.faults := by rw [hb]
      rw [stored]
      refine List.foldl_ext _ _ _ fun v n mem => ?_
      have own := ((lateIff n).1 ((mem_indicesOf late n).1 mem)).2.2
      rw [State.rejection, bslots, own, hb]
      rfl
    · rw [gone, after, Bool.eq_iff_iff, Bool.and_eq_true]
      refine ⟨fun h => h.1, fun named => ⟨named, ?_⟩⟩
      rw [if_neg ((lateIff n).1 named).1, if_pos named]
      rfl
  · obtain ⟨ni, alive, -⟩ := (lateIff n).1 named
    exact (congrArg Slot.live ((placed n).trans (if_neg ni))).trans alive
  · have found := placed n
    refine ⟨fun named => ?_, fun other => ?_⟩
    · have ni := ((lateIff n).1 named).1
      rw [if_neg ni] at found
      rw [after, if_neg ni, if_pos named]
      exact (congrArg (Slot.rejectedFor · .classDoneLate) found).symm
    · rw [after, if_neg other]
      exact found.symm
  · rw [first.amid.units.fuses, hb]
  · have waiting := State.job_apart live unqueued (fun j m => by
      rw [jobs] at m
      exact (List.mem_filter.1 m).1) mem
    have other : ¬late n = true := by
      rw [jobs] at mem
      have kept := (List.mem_filter.1 mem).2
      simp only [beq_self_eq_true, Bool.and_true, Bool.not_eq_true'] at kept
      rw [kept]
      exact nofun
    rw [after, if_neg waiting, if_neg other]
    exact ⟨rfl, (placed n).trans (if_neg waiting)⟩

end

end Sys2Proof.Machine

namespace Sys2Proof
open Machine

/-- Settles O35: what each report leaves, then the jobs that end at their start, in one event. -/
theorem keyRevokedAtStart : Obligations.KeyRevokedAtStart := by
  intro s named later revoked goesOn
  have behind {command : Instr} {first t : State} {also : Fin 12 → Prop} {reason : FaultCode} {won : Prop}
      {own : Half} (outcome : exec command s = .next t)
      (h : s.EndsBehind first t named later also reason won own) :
      goesOn command first also reason won own := ⟨t, outcome, h⟩
  clear_value goesOn
  refine ⟨fun i gen message key sig active => ?_, fun l target r message key sig active waits => ?_⟩
  · intro x
    have outcome := exec_manifestJobEnd active
    refine ⟨fun gone waits => ?_, fun p state same parsed unqueued => ?_⟩
    · rw [State.jobReport_gone (s := { s with active := none }) gone] at outcome
      refine behind outcome (State.Reports.endsBehind_of_same ?_ (fun _ => ⟨rfl, rfl⟩) waits)
      exact .still (State.raised_zero _).symm rfl rfl rfl fun _ _ => rfl
    have live : x.live = true := (Slot.live_iff _).2 (.inr (.inl state))
    rw [← same] at unqueued
    refine ⟨fun good unfull waits => ?_, fun c good full cls => ?_, fun bad waits => ?_⟩
    · rw [good, if_pos rfl, State.jobReport_signed (s := { s with active := none }) live same
        fun mapFull => unfull ((Slot.mapFull_iff parsed).1 mapFull)] at outcome
      have slot (j : Fin 12) := put_fin s.slots i { x with state := .signed, sig := .passed } j
      refine behind outcome (State.Reports.endsBehind_of_same ?_ (fun j => ?_) waits)
      · refine .still (State.raised_zero _).symm rfl rfl rfl fun n mem => ?_
        exact (slot n).trans (if_neg (State.job_apart live unqueued (fun _ h => h) mem))
      · rw [slot]
        split
        next ji => subst ji; exact ⟨live, rfl⟩
        · exact ⟨rfl, rfl⟩
    · intro late waits
      rw [good, if_pos rfl, State.jobReport_verified (s := { s with active := none }) live same
        ((Slot.mapFull_iff parsed).2 full)] at outcome
      obtain ⟨report, jobs⟩ := State.Reports.verified live unqueued cls
      refine behind outcome (report.endsBehind (fun j d pending => ?_) (iff_of_true ?_ trivial)
        (fun _ => rfl) (by rw [jobs]; exact waits))
      · have other : d ≠ c := by
          rintro rfl
          rw [put_fin_self] at pending
          cases pending
        rw [put_fin]
        split
        next ji =>
          subst ji
          exact iff_of_false (fun h => other (Option.some.inj (h.2.symm.trans cls))) fun h => nomatch h.1
        · exact .rfl
      · refine State.wins_of (s := s) live cls ?_
        rw [(report.names.slots i).2 (by simp)]
        exact congrArg Slot.state (put_fin_self ..)
    · rw [bad, if_neg nofun, State.jobReport_failed (s := { s with active := none }) live same, Slot.keyIndex,
        parsed] at outcome
      obtain ⟨report, jobs⟩ := State.Reports.failed (k := p.key) live unqueued
      refine behind outcome (report.endsBehind_of_same (fun j => ?_) (by rw [jobs]; exact waits))
      rw [put_fin]
      split
      next ji => subst ji; exact ⟨rfl, rfl⟩
      · exact ⟨rfl, rfl⟩
  · have ends : exec .revokeJobEnd s = .next s.endRevokeJob.commit := rfl
    refine ⟨fun good => ?_, fun bad => ?_⟩
    · obtain ⟨u, hu⟩ : ∃ u, u = State.handOverRevocation { s with active := none } l target := ⟨_, rfl⟩
      have outcome : s.endRevokeJob = s.startNext u := by
        simp only [State.endRevokeJob, active, good, if_true, hu]
      rw [outcome] at ends
      refine behind ends (State.Reports.endsBehind_of_same ?_ (fun _ => ⟨rfl, rfl⟩) (by rw [hu]; exact waits))
      exact .still (hu.trans (State.raised_zero _).symm) rfl rfl rfl fun _ _ => rfl
    · obtain ⟨u, hu⟩ : ∃ u, u = State.failRevocation { s with active := none } l target r := ⟨_, rfl⟩
      have outcome : s.endRevokeJob = s.startNext u := by
        simp only [State.endRevokeJob, active, bad, Bool.false_eq_true, if_false, hu]
      have posted := hu
      rw [State.failRevocation, State.recordFault_eq, State.post_eq_raised, State.raised_raised] at posted
      rw [outcome] at ends
      refine behind ends (State.Reports.endsBehind_of_same ?_ (fun _ => ⟨rfl, rfl⟩)
        (by rw [posted]; exact waits))
      exact .still posted rfl rfl rfl fun _ _ => rfl

end Sys2Proof
end
